-- ==== Sys2Proof/Word.lean ====
section
/-! DEFINITION. The bit-vector types of the part: bytes of the host port and the wire, and the two
levels of the bus line (R1). -/

namespace Sys2Proof

/-- A byte of the host port or of a frame. -/
abbrev Byte := BitVec 8

/-- A topic field, or a call tag in the topic field (R5, R7). -/
abbrev Topic := BitVec 12

/-- A station number, 1 to 63, 0 meaning unset (R5, R184). -/
abbrev Station := BitVec 6

/-- A timestamp: a value of the time base (R158). -/
abbrev Stamp := BitVec 32

/-- The logical level of the bus line (R1): dominant is logical 0, recessive is logical 1. -/
inductive Level where
  | dominant
  | recessive
  deriving DecidableEq, Repr

/-- The logical bit of a line level (R1). -/
def Level.bit : Level → Bool
  | .dominant => false
  | .recessive => true

/-- The line level of a logical bit (R1). -/
def Level.ofBit (b : Bool) : Level := if b then .recessive else .dominant

end Sys2Proof
end

