-- ==== Sys2Proof/Syntax.lean ====
section
/-! DEFINITION. The commands of the block: one constructor for each row of spec/opcode_table.json, in
the table's order. Host commands carry their parameter bytes as R209 lists them; events carry what
the spec says comes with them from outside (log 8). -/

namespace Sys2Proof

inductive Instr where
  /-- DEVICE_RESET (R43, R197): the RESET pin or power-on. `held`: the RESET pin stays low after it, or is
  released by it; `hcsLow`: the level on HCS at that instant (log 13). Written bare, the pin is released and
  HCS is high. -/
  | deviceReset (held : Bool := false) (hcsLow : Bool := false)
  /-- HCS_FALL (R193). -/
  | hcsFall
  /-- HCS_RISE (R196); `clocked`: HSCK has risen since the last whole byte, or since the fall. -/
  | hcsRise (clocked : Bool)
  /-- UNKNOWN_COMMAND (R193): a command byte that is not in the command table. -/
  | unknownCommand (code : Byte)
  /-- JOIN (R25). -/
  | join
  /-- LEAVE (R27). -/
  | leave
  /-- HOLD_ASSERT (R34). -/
  | holdAssert
  /-- HOLD_RELEASE (R36). -/
  | holdRelease
  /-- LINK_READ (R205). -/
  | linkRead
  /-- STATS_READ (R42). -/
  | statsRead
  /-- RESET (R197). -/
  | reset
  /-- LOAD (R183, R213). -/
  | load (kind index : Byte) (fields : Vector Byte 11)
  /-- SLOT_WRITE (R46). -/
  | slotWrite (slot priority kind : Byte) (topic deadline : BitVec 16) (length : Byte)
      (payload : Vector Byte 8)
  /-- SLOT_REQUEST (R47). -/
  | slotRequest (slot : Byte)
  /-- SLOT_ABORT (R51). -/
  | slotAbort (slot : Byte)
  /-- SLOT_CLEAR (R52). -/
  | slotClear (slot : Byte)
  /-- SLOT_READ (R53). -/
  | slotRead (slot : Byte)
  /-- RX_READ (R79). -/
  | rxRead
  /-- RX_RELEASE (R80). -/
  | rxRelease
  /-- CALL_WITHDRAW (R97). -/
  | callWithdraw (entry : Byte)
  /-- CALL_CLEAR (R102). -/
  | callClear (entry : Byte)
  /-- CALL_READ (R103). -/
  | callRead (entry : Byte)
  /-- OBL_FINISH (R120). -/
  | oblFinish (entry status count : Byte) (bytes : Vector Byte 6)
  /-- OBL_DISCARD (R125). -/
  | oblDiscard (entry : Byte)
  /-- OBL_READ (R126). -/
  | oblRead (entry : Byte)
  /-- REACT_ARM (R151). -/
  | reactArm (reaction : Byte)
  /-- REACT_DISARM (R152). -/
  | reactDisarm (reaction : Byte)
  /-- REACT_FORCE (R153). -/
  | reactForce (reaction : Byte)
  /-- REACT_READ (R154). -/
  | reactRead (reaction : Byte)
  /-- TIMER_START (R161). -/
  | timerStart (timer : Byte)
  /-- TIMER_STOP (R161). -/
  | timerStop (timer : Byte)
  /-- TIMER_LIMIT (R162). -/
  | timerLimit (timer : Byte) (limit : BitVec 24)
  /-- TIMER_READ (R164). -/
  | timerRead (timer : Byte)
  /-- COUNTER_READ (R167). -/
  | counterRead (counter : Byte)
  /-- COUNTER_CLEAR (R167). -/
  | counterClear (counter : Byte)
  /-- TRAIN_START (R172). -/
  | trainStart (train : Byte)
  /-- TRAIN_STOP (R171). -/
  | trainStop (train : Byte)
  /-- TRAIN_READ (R173). -/
  | trainRead (train : Byte)
  /-- OUTPUT_WRITE (R177). -/
  | outputWrite (lines levels : Byte)
  /-- LINES_READ (R179). -/
  | linesRead
  /-- FLAGS_READ (R202). -/
  | flagsRead
  /-- INDEX_READ (R203). -/
  | indexRead
  /-- DETAIL_READ (R204). -/
  | detailRead (selector : Byte)
  /-- ENABLE_WRITE (R200). -/
  | enableWrite (enables : BitVec 16)
  /-- PEER_SOF (R12). -/
  | peerSof
  /-- SOF_DRIVEN (R54). -/
  | sofDriven
  /-- EOD_POINT (R112). -/
  | eodPoint
  /-- PLACED (R115). -/
  | placed
  /-- CROWDED (R116). -/
  | crowded
  /-- FRAME_END (R11). -/
  | frameEnd
  /-- RECEIVE_ERROR (R20). -/
  | receiveError
  /-- ATTEMPT_SETTLED (R66). -/
  | attemptSettled
  /-- RECOVERY_GAP_COMPLETES (R22). -/
  | recoveryGapCompletes
  /-- INTEGRATION_COMPLETES (R26). -/
  | integrationCompletes
  /-- QUIET_PERIOD_ENDS (R40). -/
  | quietPeriodEnds
  /-- HOLD_DETECTED (R29). -/
  | holdDetected
  /-- PERSISTENCE_MARK (R30). -/
  | persistenceMark
  /-- HOLD_ENDED (R31). -/
  | holdEnded
  /-- PULSE_ENDS (R33). -/
  | pulseEnds
  /-- TIME_STEP (R158); bit k of `inputs` is the level sampled on INk (R174). -/
  | timeStep (inputs : Byte)
  /-- DEADLINE_EXPIRY (R92). -/
  | deadlineExpiry (entry : Fin 8)
  /-- TIMER_EXPIRE (R160). -/
  | timerExpire (timer : Fin 4)
  /-- LEADING_EDGE (R169). -/
  | leadingEdge (train : Fin 2)
  /-- TRAILING_EDGE (R170). -/
  | trailingEdge (train : Fin 2)
  /-- INPUT_EDGE (R175). -/
  | inputEdge (line : Fin 8)
  /-- SAMPLE_POINT (R2); `level` is the level read on BUSRX. -/
  | samplePoint (level : Level)
  /-- BYTE_COMPLETES (R193); `byte` is the byte received on HSI. -/
  | byteCompletes (byte : Byte)
  deriving DecidableEq, Repr

end Sys2Proof
end

