-- ==== Sys2Proof/Decode.lean ====
section
/-! DEFINITION. The host port's command table (R209), the bytes of each host command and the command
that a transaction's bytes name; and `decodeTableWord`, which answers none because no row of
spec/opcode_table.json gives bits. -/

namespace Sys2Proof

/-- The number of parameter bytes of each code of the command table (R209); none for a code that is
not in the table. -/
def paramCount (code : Byte) : Option Nat :=
  match code.toNat with
  | 0x01 => some 0 | 0x02 => some 0 | 0x03 => some 0 | 0x04 => some 0
  | 0x05 => some 0 | 0x06 => some 0 | 0x07 => some 0 | 0x08 => some 13
  | 0x10 => some 16 | 0x11 => some 1 | 0x12 => some 1 | 0x13 => some 1 | 0x14 => some 1
  | 0x18 => some 0 | 0x19 => some 0
  | 0x20 => some 1 | 0x21 => some 1 | 0x22 => some 1
  | 0x28 => some 9 | 0x29 => some 1 | 0x2A => some 1
  | 0x30 => some 1 | 0x31 => some 1 | 0x32 => some 1 | 0x33 => some 1
  | 0x38 => some 1 | 0x39 => some 1 | 0x3A => some 4 | 0x3B => some 1
  | 0x3C => some 1 | 0x3D => some 1
  | 0x40 => some 1 | 0x41 => some 1 | 0x42 => some 1
  | 0x48 => some 2 | 0x49 => some 0
  | 0x50 => some 0 | 0x51 => some 0 | 0x52 => some 1 | 0x53 => some 2
  | _ => none

/-- The upper byte of a 16-bit parameter: multi-byte values travel most significant byte first (R206). -/
def hi16 (w : BitVec 16) : Byte := w.extractLsb' 8 8

/-- The lower byte of a 16-bit parameter. -/
def lo16 (w : BitVec 16) : Byte := w.extractLsb' 0 8

/-- The bytes a host command sends: its code and then its parameter bytes in order (R209). Rows that
are no host command have none. -/
def encodeCommand : Instr → Option (List Byte)
  | .join => some [0x01]
  | .leave => some [0x02]
  | .holdAssert => some [0x03]
  | .holdRelease => some [0x04]
  | .linkRead => some [0x05]
  | .statsRead => some [0x06]
  | .reset => some [0x07]
  | .load k i f => some (0x08 :: k :: i :: f.toList)
  | .slotWrite s p k t d n y => some ([0x10, s, p, k, hi16 t, lo16 t, hi16 d, lo16 d, n] ++ y.toList)
  | .slotRequest s => some [0x11, s]
  | .slotAbort s => some [0x12, s]
  | .slotClear s => some [0x13, s]
  | .slotRead s => some [0x14, s]
  | .rxRead => some [0x18]
  | .rxRelease => some [0x19]
  | .callWithdraw e => some [0x20, e]
  | .callClear e => some [0x21, e]
  | .callRead e => some [0x22, e]
  | .oblFinish e st n b => some ([0x28, e, st, n] ++ b.toList)
  | .oblDiscard e => some [0x29, e]
  | .oblRead e => some [0x2A, e]
  | .reactArm r => some [0x30, r]
  | .reactDisarm r => some [0x31, r]
  | .reactForce r => some [0x32, r]
  | .reactRead r => some [0x33, r]
  | .timerStart t => some [0x38, t]
  | .timerStop t => some [0x39, t]
  | .timerLimit t l => some [0x3A, t, l.extractLsb' 16 8, l.extractLsb' 8 8, l.extractLsb' 0 8]
  | .timerRead t => some [0x3B, t]
  | .counterRead c => some [0x3C, c]
  | .counterClear c => some [0x3D, c]
  | .trainStart g => some [0x40, g]
  | .trainStop g => some [0x41, g]
  | .trainRead g => some [0x42, g]
  | .outputWrite l v => some [0x48, l, v]
  | .linesRead => some [0x49]
  | .flagsRead => some [0x50]
  | .indexRead => some [0x51]
  | .detailRead s => some [0x52, s]
  | .enableWrite e => some [0x53, hi16 e, lo16 e]
  | .deviceReset _ _ | .hcsFall | .hcsRise _ | .unknownCommand _ | .peerSof | .sofDriven | .eodPoint
  | .placed | .crowded | .frameEnd | .receiveError | .attemptSettled | .recoveryGapCompletes
  | .integrationCompletes | .quietPeriodEnds | .holdDetected | .persistenceMark | .holdEnded
  | .pulseEnds | .timeStep _ | .deadlineExpiry _ | .timerExpire _ | .leadingEdge _
  | .trailingEdge _ | .inputEdge _ | .samplePoint _ | .byteCompletes _ => none

/-- The command that a code and its parameter bytes name (R209): none unless the code is in the
table and exactly its count of parameter bytes stands behind it. -/
def decodeCommand (bytes : List Byte) : Option Instr :=
  match bytes with
  | [] => none
  | code :: ps =>
    match code.toNat, ps with
    | 0x01, [] => some .join
    | 0x02, [] => some .leave
    | 0x03, [] => some .holdAssert
    | 0x04, [] => some .holdRelease
    | 0x05, [] => some .linkRead
    | 0x06, [] => some .statsRead
    | 0x07, [] => some .reset
    | 0x08, [k, i, a, b, c, d, e, f, g, h, j, l, m] =>
      some (.load k i #v[a, b, c, d, e, f, g, h, j, l, m])
    | 0x10, [s, p, k, t1, t0, d1, d0, n, a, b, c, d, e, f, g, h] =>
      some (.slotWrite s p k (t1 ++ t0) (d1 ++ d0) n #v[a, b, c, d, e, f, g, h])
    | 0x11, [s] => some (.slotRequest s)
    | 0x12, [s] => some (.slotAbort s)
    | 0x13, [s] => some (.slotClear s)
    | 0x14, [s] => some (.slotRead s)
    | 0x18, [] => some .rxRead
    | 0x19, [] => some .rxRelease
    | 0x20, [e] => some (.callWithdraw e)
    | 0x21, [e] => some (.callClear e)
    | 0x22, [e] => some (.callRead e)
    | 0x28, [e, st, n, a, b, c, d, f, g] => some (.oblFinish e st n #v[a, b, c, d, f, g])
    | 0x29, [e] => some (.oblDiscard e)
    | 0x2A, [e] => some (.oblRead e)
    | 0x30, [r] => some (.reactArm r)
    | 0x31, [r] => some (.reactDisarm r)
    | 0x32, [r] => some (.reactForce r)
    | 0x33, [r] => some (.reactRead r)
    | 0x38, [t] => some (.timerStart t)
    | 0x39, [t] => some (.timerStop t)
    | 0x3A, [t, a, b, c] => some (.timerLimit t (a ++ b ++ c))
    | 0x3B, [t] => some (.timerRead t)
    | 0x3C, [c] => some (.counterRead c)
    | 0x3D, [c] => some (.counterClear c)
    | 0x40, [g] => some (.trainStart g)
    | 0x41, [g] => some (.trainStop g)
    | 0x42, [g] => some (.trainRead g)
    | 0x48, [l, v] => some (.outputWrite l v)
    | 0x49, [] => some .linesRead
    | 0x50, [] => some .flagsRead
    | 0x51, [] => some .indexRead
    | 0x52, [s] => some (.detailRead s)
    | 0x53, [a, b] => some (.enableWrite (a ++ b))
    | _, _ => none

/-- No row of spec/opcode_table.json gives bits, so no word spells a command (log 21). -/
def decodeTableWord (_nbits _w : Nat) : Option Instr := none

end Sys2Proof
end

