-- ==== Sys2Proof/Config.lean ====
section
/-! DEFINITION. What the spec fixes for every part, and the one free value of the model. -/

namespace Sys2Proof.Config

/-- FREE VALUE (log 4). Which of several blocks goes next where they act at one instant and the spec
gives no order (R73, R90, R138, R166). It is applied to the counter `State.freeCount`; nothing is
known of its values. -/
opaque pick : Nat → Nat

/-- Consecutive dominant bt that make a hold (R23). -/
def holdDetectedAt : Nat := 16

/-- Further unbroken dominant bt that make a persistence mark (R23). -/
def persistenceAt : Nat := 2048

/-- Consecutive recessive bt that end a hold (R23). -/
def holdEndedAt : Nat := 12

/-- Consecutive recessive bt that complete integration (R26). -/
def integrationAt : Nat := 12

/-- Recessive bt of the error-recovery gap (R22). -/
def recoveryAt : Nat := 8

/-- The QUIET period in bt (R40). -/
def quietPeriod : Nat := 8192

/-- The consecutive-failure count at which one more failure leads to QUIET (R38). -/
def failureLimit : Nat := 31

/-- Records the Receive Queue holds (R77). -/
def queueCapacity : Nat := 16

/-- Positions of a response window (R15). -/
def windowPositions : Nat := 15

/-- The chain depth at which firings are suppressed (R145). -/
def chainLimit : Nat := 5

end Sys2Proof.Config
end

