-- ==== Sys2Proof/Machine/State.lean ====
section
/-! DEFINITION. The state of the part, block by block, as plain data, and its value after device
reset. Every field names the rule that gives it. -/

namespace Sys2Proof.Machine

/-! ## Frames (R5 to R21) -/

/-- The kind field of a frame (R5). -/
inductive FrameKind where
  | cue | call | done | withdraw
  deriving DecidableEq, Repr

/-- The settled code of a transmit attempt (R20). -/
inductive TxCode where
  | ok | lost | bit | stuff | form | hold
  deriving DecidableEq, Repr

/-- The error codes of a receiver, the responder's role included (R20). -/
inductive RxCode where
  | stuff | form | check
  deriving DecidableEq, Repr

/-- The station's role in the frame in progress (R20). -/
inductive Role where
  | transmitter | receiver
  deriving DecidableEq, Repr

/-- The element of the frame that the next bit belongs to (R207). -/
inductive Elem where
  | sof | header | data | check | eod
  /-- the start-bit time of a response position (R15, R17) -/
  | start
  /-- the response byte of a position -/
  | response
  | eof
  deriving DecidableEq, Repr

/-- The station's own part in the response window (R15). -/
inductive Responder where
  /-- it answers nothing -/
  | absent
  /-- unplaced and competing in the position -/
  | competing
  /-- unplaced, and it has lost the position in progress -/
  | beaten
  /-- its byte is read back whole, and the stuff bit that follows it is still to come (R15) -/
  | sent
  /-- placed -/
  | placed
  deriving DecidableEq, Repr

/-- The frame in progress at this station (R20). -/
structure Frame where
  role : Role
  /-- the station lost arbitration for this frame (R13, R112) -/
  lost : Bool
  elem : Elem
  /-- bits of the element already read, stuff bits left out -/
  count : Nat
  /-- equal bits read last in the stuffed sequence, 0 to 5 (R3) -/
  run : Nat
  /-- the level of that run -/
  last : Level
  /-- header and data bits read, in order (R5) -/
  bits : List Bool
  /-- check bits read, in order -/
  check : List Bool
  /-- the CRC register over the header and data bits read (R10) -/
  crc : BitVec 16
  /-- header, data and check bits still to send, the transmitter's (R45) -/
  toSend : List Bool
  /-- response bytes read, in position order (R16) -/
  responses : List Byte
  /-- bits read of the response byte in progress -/
  partialByte : List Bool
  responder : Responder
  /-- the station's own response byte (R208); meaningful unless `responder` is absent -/
  ownByte : Byte
  /-- an error has been detected: the station has stopped driving and interpreting (R20) -/
  stopped : Bool
  /-- provisional code of the own attempt (R21) -/
  txCode : Option TxCode
  /-- provisional code as a receiver (R21) -/
  rxCode : Option RxCode
  deriving DecidableEq, Repr

/-- A frame received whole, as it is handed on at frame end (R20). -/
structure RxFrame where
  priority : BitVec 3
  kind : FrameKind
  topic : Topic
  source : Station
  data : List Byte
  responses : List Byte
  deriving DecidableEq, Repr

/-! ## Link Controller (R24 to R43, R62 to R67) -/

/-- R24. -/
inductive LinkState where
  | config | offline | integrating | active | quiet
  deriving DecidableEq, Repr

/-- R22. -/
inductive BusPhase where
  | out | await | idle | frame | recovery | hold
  deriving DecidableEq, Repr

/-- R2, R184. -/
inductive BusRate where
  | k62 | k125 | k250 | k500
  deriving DecidableEq, Repr

/-- A transmit candidate (R62). -/
inductive Candidate where
  | slot (s : Fin 8)
  | obligation (o : Fin 8)
  | withdraw (k : Fin 8)
  deriving DecidableEq, Repr

/-- The arbiter's choice (R63). `due`: its SOF falls in the bit time of the next sample point (log 7). -/
structure Choice where
  candidate : Candidate
  due : Bool
  deriving DecidableEq, Repr

/-- A line event that a sample point has brought about and that is still to be carried out (log 1). -/
inductive LineEvent where
  | attemptSettled (c : TxCode)
  | receiveError (c : RxCode)
  | peerSof
  | eodPoint
  | placed
  | crowded
  | frameEnd
  | recoveryGap
  | integration
  | holdDetected
  | persistenceMark
  | holdEnded
  | pulseEnds
  | quietEnds
  deriving DecidableEq, Repr

/-- The statistics counters, in the order of the table of R41. -/
inductive Stat where
  | rxCheck | rxStuff | rxForm | txBit | txStuff | txForm | failed | losses | overruns | stray | crowded
  deriving DecidableEq, Repr

structure LinkController where
  /-- R24 -/
  state : LinkState
  /-- R22 -/
  phase : BusPhase
  /-- line condition: HELD (R29) -/
  held : Bool
  /-- the hold in progress was detected in AWAIT, or is treated so (R22, R32) -/
  holdInAwait : Bool
  /-- own hold assertion: persistent flag (R33) -/
  holdFlag : Bool
  /-- own hold assertion: pulse remainder in bt, 0 to 65,535 (R33) -/
  pulse : Nat
  /-- consecutive-failure count, 0 to 31 (R37) -/
  failures : Nat
  /-- R63, R65 -/
  choice : Option Choice
  /-- R66 -/
  inFlight : Option Candidate
  /-- the frame in progress (R20) -/
  frame : Option Frame
  /-- integration count, 0 to 12 (R26) -/
  integration : Nat
  /-- recovery count, 0 to 8 (R22) -/
  recovery : Nat
  /-- dominant-run count, 0 to 16 (R23) -/
  dominantRun : Nat
  /-- persistence count, 0 to 2047 (R23) -/
  persistence : Nat
  /-- hold-end count, 0 to 12 (R23) -/
  holdEnd : Nat
  /-- bt elapsed of a running QUIET period (R40) -/
  quiet : Option Nat
  /-- taken at JOIN (R25) -/
  station : Station
  rate : BusRate
  protocolPriority : BitVec 3
  retryLimit : Nat
  holdLength : Nat
  /-- the eleven counters of R41, each 0 to 255 -/
  stats : Vector Nat 11
  /-- THE MODEL'S OWN: line events waiting (log 1) -/
  due : List LineEvent
  deriving DecidableEq, Repr

/-! ## Outbox (R44) -/

inductive SlotKind where
  | cue | call
  deriving DecidableEq, Repr

inductive SlotState where
  | empty | loaded | pending | sending | sent | failed | aborted
  deriving DecidableEq, Repr

/-- The done states (R44). -/
inductive DoneState where
  | sent | failed | aborted
  deriving DecidableEq, Repr

structure Slot where
  state : SlotState
  priority : BitVec 3
  kind : SlotKind
  topic : Topic
  payload : List Byte
  deadline : Nat
  attempts : Nat
  losses : Nat
  /-- last completion code; none is NONE -/
  lastCode : Option TxCode
  rerun : Bool
  abort : Bool
  abortTooLate : Bool
  rerunDropped : Bool
  /-- the call entry field: index and generation -/
  call : Option (Fin 8 × BitVec 3)
  sentAt : Stamp
  deriving DecidableEq, Repr

/-! ## Acceptance Unit and Receive Queue (R68 to R83) -/

structure Filter where
  enabled : Bool
  topic : Topic
  maskIndex : Byte
  /-- bit 0 CUE, bit 1 CALL, bit 2 DONE, bit 3 WITHDRAW (R206) -/
  kinds : BitVec 4
  /-- bit 0 QUEUE, bit 1 TRIGGER, bit 2 ENROL (R206) -/
  roles : BitVec 3
  deriving DecidableEq, Repr

structure AcceptanceUnit where
  masks : Vector (BitVec 12) 4
  filters : Vector Filter 16
  matchSet : BitVec 16
  deriving DecidableEq, Repr

/-- A receive record (R76). -/
structure RxRecord where
  filter : Fin 16
  kind : FrameKind
  priority : BitVec 3
  topic : Topic
  source : Station
  /-- the data bytes; their number is the length field -/
  data : List Byte
  endedAt : Stamp
  /-- present for CALL records alone -/
  responses : Option (List Byte)
  deriving DecidableEq, Repr

/-! ## Call Unit (R84) -/

inductive CallState where
  | free | reserved | opened | withdrawing | settled
  deriving DecidableEq, Repr

/-- A settled call's outcome; NONE is the absence of one. -/
inductive CallOutcome where
  | allDone | unanswered | expired | withdrawn | withdrawFailed | abandoned
  deriving DecidableEq, Repr

structure CallResult where
  station : Station
  status : Byte
  bytes : List Byte
  late : Bool
  arrivedAt : Stamp
  deriving DecidableEq, Repr

structure CallEntry where
  state : CallState
  generation : BitVec 3
  slot : Option (Fin 8)
  topic : Topic
  deadline : Nat
  /-- ms, 0 to 65,535 -/
  remaining : Nat
  /-- µs, 0 to 999 -/
  fraction : Nat
  enrolled : List Station
  busy : List Station
  outstanding : List Station
  results : List CallResult
  unanswered : List Station
  outcome : Option CallOutcome
  withdrawPending : Bool
  withdrawAttempts : Nat
  openedAt : Stamp
  settledAt : Stamp
  /-- THE MODEL'S OWN: the microsecond that brings `remaining` to 0 has completed and the expiry
  waits (log 1) -/
  expiring : Bool
  deriving DecidableEq, Repr

/-! ## Obligation Unit (R111) -/

inductive OblState where
  | free | reserved | opened | finishing | failed | withdrawn
  deriving DecidableEq, Repr

structure CallTag where
  caller : Station
  index : BitVec 3
  generation : BitVec 3
  deriving DecidableEq, Repr

structure Obligation where
  state : OblState
  tag : CallTag
  topic : Topic
  filter : Fin 16
  openedAt : Stamp
  /-- status byte and 0 to 6 result bytes -/
  result : Option (Byte × List Byte)
  attempts : Nat
  deriving DecidableEq, Repr

/-- What a verdict named (R113). -/
inductive Answer where
  | reserved (o : Fin 8)
  | reused (o : Fin 8)
  | busy
  deriving DecidableEq, Repr

/-- The verdict record of the frame in progress (R113, R115). -/
structure Verdict where
  answer : Answer
  placed : Bool
  deriving DecidableEq, Repr

structure ObligationUnit where
  entries : Vector Obligation 8
  verdict : Option Verdict
  deriving DecidableEq, Repr

/-! ## Reaction Engine (R131 to R157) -/

inductive TriggerKind where
  | none | cueMatch | inputEdge | timerExpire | countMatch | trainPulse | trainDone | slotDone
  | callSettled | obligationOpened | obligationWithdrawn | reactionFired | holdBegin | holdPersists
  | holdEnd
  deriving DecidableEq, Repr

inductive GateKind where
  | none | high | low
  deriving DecidableEq, Repr

inductive ActionKind where
  | send | timerStart | timerStop | trainStart | trainStop | outputSet | outputClear | outputToggle
  | counterClear | arm | disarm | finish | holdPulse | notify
  deriving DecidableEq, Repr

/-- A reaction's definition, its naming fields as loaded (R131, R187). -/
structure ReactionDef where
  trigger : TriggerKind
  selector : Byte
  qualifier : Byte
  gate : GateKind
  gateLine : Byte
  action : ActionKind
  target : Byte
  parameter : BitVec 16
  /-- 0 is unlimited -/
  budget : Nat
  initialArmed : Bool
  deriving DecidableEq, Repr

inductive ArmState where
  | disarmed | armed | spent
  deriving DecidableEq, Repr

inductive RefusalReason where
  | linkNotJoined | slotEmpty | noCallEntry | linkNotActive | noOpenObligation | lineOwnedByTrain
  deriving DecidableEq, Repr

inductive ActionResult where
  | done
  | refused (r : RefusalReason)
  deriving DecidableEq, Repr

/-- A reaction's run state (R135). -/
structure ReactionRun where
  arm : ArmState
  remaining : Nat
  fireCount : Nat
  firedAt : Stamp
  lastResult : Option ActionResult
  lastNotice : Byte
  deriving DecidableEq, Repr

inductive Edge where
  | rise | fall
  deriving DecidableEq, Repr

inductive TrainEnd where
  | complete | stopped
  deriving DecidableEq, Repr

/-- An occurrence with its selector and its edge or outcome (R132). -/
inductive Occurrence where
  | cueMatch (f : Fin 16)
  | inputEdge (k : Fin 8) (e : Edge)
  | timerExpire (t : Fin 4)
  | countMatch (c : Fin 2)
  | trainPulse (g : Fin 2)
  | trainDone (g : Fin 2) (e : TrainEnd)
  | slotDone (s : Fin 8) (d : DoneState)
  | callSettled (k : Fin 8) (o : CallOutcome)
  | obligationOpened (f : Fin 16)
  | obligationWithdrawn (f : Fin 16)
  | reactionFired (r : Fin 24)
  | holdBegin
  | holdPersists
  | holdEnd
  deriving DecidableEq, Repr

/-- The root of a chain (R137, R153). -/
inductive Root where
  | occurrence (o : Occurrence)
  | force (r : Fin 24)
  deriving DecidableEq, Repr

/-- R136. -/
structure RefusalRecord where
  reaction : Fin 24
  action : ActionKind
  reason : RefusalReason
  stamp : Stamp
  deriving DecidableEq, Repr

/-- R136. -/
structure ChainRecord where
  reaction : Fin 24
  reached : Occurrence
  root : Root
  stamp : Stamp
  deriving DecidableEq, Repr

structure ReactionEngine where
  defs : Vector ReactionDef 24
  runs : Vector ReactionRun 24
  refusal : Option RefusalRecord
  chainLimit : Option ChainRecord
  notices : BitVec 24
  deriving DecidableEq, Repr

/-! ## Timing Unit (R158 to R173) -/

inductive TimerMode where
  | once | repeating
  deriving DecidableEq, Repr

structure Timer where
  /-- µs, 1 to 16,777,215 -/
  limit : Nat
  mode : TimerMode
  running : Bool
  /-- µs; below the limit while running, 0 while stopped (R159) -/
  count : Nat
  /-- THE MODEL'S OWN: the time step that brings the count to the limit has completed and the
  expiry waits (log 1) -/
  expiring : Bool
  deriving DecidableEq, Repr

/-- The edges a counter counts (R165). -/
inductive CounterEdge where
  | none | rise | fall | both
  deriving DecidableEq, Repr

structure Counter where
  source : Fin 8
  edge : CounterEdge
  compare : BitVec 24
  count : BitVec 24
  deriving DecidableEq, Repr

inductive TrainPart where
  | rest | active
  deriving DecidableEq, Repr

structure Train where
  line : Fin 8
  period : Nat
  width : Nat
  count : BitVec 16
  running : Bool
  part : TrainPart
  elapsed : Nat
  pulses : BitVec 16
  stopMark : Bool
  /-- THE MODEL'S OWN: the time step that ends the part in progress has completed and the edge
  waits (log 1) -/
  edgeDue : Bool
  deriving DecidableEq, Repr

structure TimingUnit where
  timeBase : Stamp
  timers : Vector Timer 4
  counters : Vector Counter 2
  trains : Vector Train 2
  deriving DecidableEq, Repr

/-! ## Line Unit (R174 to R179) -/

structure InputLine where
  /-- settled level: high -/
  level : Bool
  /-- settle period: not running, or its elapsed µs -/
  settling : Option Nat
  settleTime : Nat
  /-- THE MODEL'S OWN: the sample that settles the new level has been taken and the edge waits
  (log 1) -/
  edgeDue : Bool
  deriving DecidableEq, Repr

inductive Owner where
  | level | train (g : Fin 2)
  deriving DecidableEq, Repr

structure OutputLine where
  /-- rest level: high -/
  rest : Bool
  owner : Owner
  /-- output level: high -/
  level : Bool
  deriving DecidableEq, Repr

structure LineUnit where
  inputs : Vector InputLine 8
  outputs : Vector OutputLine 8
  deriving DecidableEq, Repr

/-! ## Event Unit (R199 to R204) -/

/-- The twelve flags, highest priority first (R199). -/
inductive Flag where
  | holdNote | linkNote | reactLimit | rxOverrun | callSettled | oblNote | callNote | oblOpened
  | slotDone | reactNotice | rxReady | busError
  deriving DecidableEq, Repr

structure EventUnit where
  /-- bit p - 1 is the flag at position p (R206) -/
  flags : BitVec 12
  enables : BitVec 12
  slotsDone : BitVec 8
  callsSettled : BitVec 8
  oblsOpened : BitVec 8
  oblsChanged : BitVec 8
  deriving DecidableEq, Repr

/-! ## Host Port (R193 to R197) -/

inductive PortPhase where
  /-- no phase of R193: the RESET pin is held low, and the port takes no byte (R197) -/
  | inReset
  | deselected
  | command
  /-- the code and the parameter bytes received so far -/
  | parameters (got : List Byte)
  /-- the reply bytes still to be shifted out -/
  | reply (left : List Byte)
  | trailing
  deriving DecidableEq, Repr

structure HostPort where
  phase : PortPhase
  /-- none: high impedance; otherwise the byte shifted out last, 0 before the first (log 17) -/
  hso : Option Byte
  portErrors : BitVec 8
  /-- a RESET command has been taken and waits for the rise of HCS (R197) -/
  resetOrdered : Bool
  deriving DecidableEq, Repr

/-! ## Configuration image (R182): the entries held outside the blocks that use them -/

structure StationEntry where
  /-- 0 is unset -/
  number : Station
  rate : BusRate
  protocolPriority : BitVec 3
  retryLimit : Nat
  holdLength : Nat
  deriving DecidableEq, Repr

structure LineEntry where
  settleTime : Nat
  rest : Bool
  owner : Owner
  deriving DecidableEq, Repr

structure TimerEntry where
  limit : Nat
  mode : TimerMode
  deriving DecidableEq, Repr

structure CounterEntry where
  source : Byte
  edge : CounterEdge
  compare : BitVec 24
  deriving DecidableEq, Repr

structure TrainEntry where
  line : Byte
  period : Nat
  width : Nat
  count : BitVec 16
  deriving DecidableEq, Repr

structure Image where
  station : StationEntry
  lines : Vector LineEntry 8
  timers : Vector TimerEntry 4
  counters : Vector CounterEntry 2
  trains : Vector TrainEntry 2
  deriving DecidableEq, Repr

/-! ## The whole part -/

structure State where
  lc : LinkController
  outbox : Vector Slot 8
  au : AcceptanceUnit
  rq : List RxRecord
  cu : Vector CallEntry 8
  ou : ObligationUnit
  re : ReactionEngine
  tu : TimingUnit
  lu : LineUnit
  eu : EventUnit
  hp : HostPort
  image : Image
  /-- the commands that wait, first in first out -/
  pending : List Instr
  /-- THE MODEL'S OWN: advances at each use of the free value `Config.pick` (log 16) -/
  freeCount : Nat
  deriving DecidableEq, Repr

/-- The spec names no event that stops the part: errors on the line are completion codes (R20),
refused commands are replies (R198), refused actions are records (R142). So nothing raises a fault,
and the type has no constructor. That is safe: no behaviour is cut off. -/
inductive Fault where
  deriving DecidableEq, Repr

inductive Refusal where
  /-- Raised by `exec` for a row that has no meaning yet, by the row's mnemonic. Safe: the model stops. -/
  | notModelled (mnemonic : String)
  deriving DecidableEq, Repr

/-! ## Device reset -/

/-- R43; the parameters are the configuration defaults of R184. -/
def LinkController.reset : LinkController where
  state := .config
  phase := .out
  held := false
  holdInAwait := false
  holdFlag := false
  pulse := 0
  failures := 0
  choice := none
  inFlight := none
  frame := none
  integration := 0
  recovery := 0
  dominantRun := 0
  persistence := 0
  holdEnd := 0
  quiet := none
  station := 0
  rate := .k125
  protocolPriority := 1
  retryLimit := 3
  holdLength := 64
  stats := Vector.replicate 11 0
  due := []

/-- R44. -/
def Slot.reset : Slot where
  state := .empty
  priority := 0
  kind := .cue
  topic := 0
  payload := []
  deadline := 0
  attempts := 0
  losses := 0
  lastCode := none
  rerun := false
  abort := false
  abortTooLate := false
  rerunDropped := false
  call := none
  sentAt := 0

/-- R69. -/
def Filter.reset : Filter where
  enabled := false
  topic := 0
  maskIndex := 0
  kinds := 0
  roles := 0

/-- A FREE call entry with the free values and generation `g` (R84). -/
def CallEntry.freeWith (g : BitVec 3) : CallEntry where
  state := .free
  generation := g
  slot := none
  topic := 0
  deadline := 0
  remaining := 0
  fraction := 0
  enrolled := []
  busy := []
  outstanding := []
  results := []
  unanswered := []
  outcome := none
  withdrawPending := false
  withdrawAttempts := 0
  openedAt := 0
  settledAt := 0
  expiring := false

/-- A FREE obligation entry with the free values (R111). -/
def Obligation.free : Obligation where
  state := .free
  tag := ⟨0, 0, 0⟩
  topic := 0
  filter := 0
  openedAt := 0
  result := none
  attempts := 0

/-- An unconfigured reaction (R131). -/
def ReactionDef.reset : ReactionDef where
  trigger := .none
  selector := 0
  qualifier := 0
  gate := .none
  gateLine := 0
  action := .notify
  target := 0
  parameter := 0
  budget := 0
  initialArmed := false

/-- R135. -/
def ReactionRun.reset : ReactionRun where
  arm := .disarmed
  remaining := 0
  fireCount := 0
  firedAt := 0
  lastResult := none
  lastNotice := 0

/-- R159. -/
def Timer.reset : Timer where
  limit := 1000
  mode := .once
  running := false
  count := 0
  expiring := false

/-- R165. -/
def Counter.reset : Counter where
  source := 0
  edge := .none
  compare := 0
  count := 0

/-- R168. -/
def Train.reset : Train where
  line := 0
  period := 2
  width := 1
  count := 0
  running := false
  part := .rest
  elapsed := 0
  pulses := 0
  stopMark := false
  edgeDue := false

/-- R181. -/
def InputLine.reset : InputLine where
  level := false
  settling := none
  settleTime := 0
  edgeDue := false

/-- R176. -/
def OutputLine.reset : OutputLine where
  rest := false
  owner := .level
  level := false

/-- R184, R186. -/
def Image.reset : Image where
  station := { number := 0, rate := .k125, protocolPriority := 1, retryLimit := 3, holdLength := 64 }
  lines := Vector.replicate 8 { settleTime := 0, rest := false, owner := .level }
  timers := Vector.replicate 4 { limit := 1000, mode := .once }
  counters := Vector.replicate 2 { source := 0, edge := .none, compare := 0 }
  trains := Vector.replicate 2 { line := 0, period := 2, width := 1, count := 0 }

/-- The part right after power-on (R43, R44, R83, R110, R130, R157, R181, R192 and R196 to R204),
with RESET and HCS high (log 12). -/
def State.reset : State where
  lc := LinkController.reset
  outbox := Vector.replicate 8 Slot.reset
  au := { masks := Vector.replicate 4 0xFFF, filters := Vector.replicate 16 Filter.reset, matchSet := 0 }
  rq := []
  cu := Vector.replicate 8 (CallEntry.freeWith 0)
  ou := { entries := Vector.replicate 8 Obligation.free, verdict := none }
  re :=
    { defs := Vector.replicate 24 ReactionDef.reset
      runs := Vector.replicate 24 ReactionRun.reset
      refusal := none
      chainLimit := none
      notices := 0 }
  tu :=
    { timeBase := 0
      timers := Vector.replicate 4 Timer.reset
      counters := Vector.replicate 2 Counter.reset
      trains := Vector.replicate 2 Train.reset }
  lu := { inputs := Vector.replicate 8 InputLine.reset, outputs := Vector.replicate 8 OutputLine.reset }
  eu := { flags := 0, enables := 0, slotsDone := 0, callsSettled := 0, oblsOpened := 0, oblsChanged := 0 }
  hp := { phase := .deselected, hso := none, portErrors := 0, resetOrdered := false }
  image := Image.reset
  pending := []
  freeCount := 0

end Sys2Proof.Machine
end

