-- ==== Sys2Proof/Machine/Operands.lean ====
section
/-! DEFINITION. The layouts at the two ports: bit strings, the CRC, frames on the wire (R5 to R10,
R207, R208), and the codes of the host port (R206). -/

namespace Sys2Proof.Machine

/-! ## Bytes and bit strings (R206) -/

/-- `n` bytes of `x`, most significant first (R206). -/
def be : Nat → Nat → List Byte
  | 0, _ => []
  | n + 1, x => BitVec.ofNat 8 (x / 256 ^ n) :: be n x

/-- A byte for a small number. -/
def byte (x : Nat) : Byte := BitVec.ofNat 8 x

/-- A byte for a yes/no, set/clear or present/absent value (R206). -/
def boolByte (b : Bool) : Byte := if b then 1 else 0

/-- `xs` in `n` bytes, unused bytes 0 (R210). -/
def padded (n : Nat) (xs : List Byte) : List Byte := (xs ++ List.replicate n 0).take n

/-- A bit field with member `i` added (R206). -/
def withBit {n : Nat} (v : BitVec n) (i : Nat) : BitVec n := v ||| BitVec.ofNat n (2 ^ i)

/-- The index that a byte names, where the caller has checked the range. -/
def ix (n : Nat) [NeZero n] (b : Byte) : Fin n := Fin.ofNat n b.toNat

/-- The bits of `x`, `n` of them, most significant first. -/
def bitsOf : Nat → Nat → List Bool
  | 0, _ => []
  | n + 1, x => x.testBit n :: bitsOf n x

/-- The number that bits spell, most significant first. -/
def natOf (bits : List Bool) : Nat := bits.foldl (fun n b => 2 * n + b.toNat) 0

/-! ## The check (R10) -/

/-- One bit of the CRC with generator x^16 + x^12 + x^5 + 1. -/
def crcStep (crc : BitVec 16) (b : Bool) : BitVec 16 :=
  if crc.msb != b then (crc <<< 1) ^^^ 0x1021 else crc <<< 1

/-- The register's preset: all ones. -/
def crcPreset : BitVec 16 := 0xFFFF

/-- The check over header and data bits. -/
def crcOf (bits : List Bool) : BitVec 16 := bits.foldl crcStep crcPreset

/-! ## Header fields (R5, R207) -/

/-- The kind field's codes (R5). -/
def FrameKind.code : FrameKind → Nat
  | .cue => 0 | .call => 1 | .done => 2 | .withdraw => 3

/-- The kind a kind field holds; none for the illegal values 4 to 7 (R5). -/
def FrameKind.ofCode : Nat → Option FrameKind
  | 0 => some .cue | 1 => some .call | 2 => some .done | 3 => some .withdraw | _ => none

/-- The header bits of a frame (R5). -/
def headerBits (priority : BitVec 3) (kind : FrameKind) (topic : Topic) (source : Station)
    (length : Nat) : List Bool :=
  bitsOf 3 priority.toNat ++ bitsOf 3 kind.code ++ bitsOf 12 topic.toNat ++ bitsOf 6 source.toNat
    ++ bitsOf 4 length

/-- Header, data and check bits of a frame before stuffing (R207). -/
def frameBits (priority : BitVec 3) (kind : FrameKind) (topic : Topic) (source : Station)
    (data : List Byte) : List Bool :=
  let hd := headerBits priority kind topic source data.length
    ++ (data.map fun d => bitsOf 8 d.toNat).flatten
  hd ++ bitsOf 16 (crcOf hd).toNat

/-- Bits `from` to `from + n - 1`, counted from 0, as a number. -/
def field (bits : List Bool) (start n : Nat) : Nat := natOf ((bits.drop start).take n)

/-- A frame's fields, from its header and data bits. -/
def priorityOf (bits : List Bool) : BitVec 3 := BitVec.ofNat 3 (field bits 0 3)
def kindOf (bits : List Bool) : Option FrameKind := FrameKind.ofCode (field bits 3 3)
def topicOf (bits : List Bool) : Topic := BitVec.ofNat 12 (field bits 6 12)
def sourceOf (bits : List Bool) : Station := BitVec.ofNat 6 (field bits 18 6)
def lengthOf (bits : List Bool) : Nat := field bits 24 4

/-- The first `n` data bytes (R207). -/
def dataOf (bits : List Bool) : Nat → List Byte
  | 0 => []
  | n + 1 => dataOf bits n ++ [BitVec.ofNat 8 (field bits (28 + 8 * n) 8)]

/-- Which length fields are legal for a kind (R6 to R9). -/
def legalLength (kind : FrameKind) (n : Nat) : Bool :=
  match kind with
  | .cue => n ≤ 8
  | .call => 1 ≤ n && n ≤ 8
  | .done => 1 ≤ n && n ≤ 7
  | .withdraw => n == 0

/-- The legality tests of a receiver that fall at the `n`th header or data bit (R5, R7 to R9):
false is a FORM error detected at that bit. -/
def legalAt (bits : List Bool) (n : Nat) : Bool :=
  match n with
  | 6 => (kindOf bits).isSome
  | 18 => match kindOf bits with
    | some .done | some .withdraw => field bits 6 6 != 0
    | _ => true
  | 24 => field bits 18 6 != 0
  | 28 => match kindOf bits with
    | some k => legalLength k (lengthOf bits)
    | none => false
  | 36 => match kindOf bits with
    | some .call => field bits 34 2 == 0
    | _ => true
  | _ => true

/-! ## Call tags and response bytes (R7, R8, R85, R208) -/

/-- A tag as the topic field carries it: caller × 64 + index × 8 + generation (R85). -/
def CallTag.topic (t : CallTag) : Topic := t.caller ++ t.index ++ t.generation

/-- The tag a DONE or WITHDRAW topic field holds (R207). -/
def CallTag.ofTopic (t : Topic) : CallTag :=
  { caller := t.extractLsb' 6 6, index := t.extractLsb' 3 3, generation := t.extractLsb' 0 3 }

/-- The call reference: index, generation and two spare bits 0 (R7, R207). -/
def callReference (index : Fin 8) (generation : BitVec 3) : Byte :=
  BitVec.ofNat 3 index.val ++ generation ++ 0#2

/-- The tag of a CALL frame: its source with the call reference of data byte 0 (R7). -/
def CallTag.ofCall (source : Station) (reference : Byte) : CallTag :=
  { caller := source, index := reference.extractLsb' 5 3, generation := reference.extractLsb' 2 3 }

/-- A response byte (R208). -/
def responseByte (busy : Bool) (station : Station) : Byte :=
  (if busy then 1#2 else 0#2) ++ station

/-- The station a response byte names (R208). -/
def responseStation (b : Byte) : Station := b.extractLsb' 0 6

/-- The verdict of a legal response byte: BUSY (R208). -/
def responseBusy (b : Byte) : Bool := b.getLsbD 6

/-! ## Codes of the host port (R206) -/

/-- Reply status (R198, R206). -/
inductive Status where
  | ok | busy | empty | state | range | full | configError | unknown
  deriving DecidableEq, Repr

def Status.code : Status → Byte
  | .ok => 0x80 | .busy => 0x81 | .empty => 0x82 | .state => 0x83 | .range => 0x84
  | .full => 0x85 | .configError => 0x86 | .unknown => 0x87

/-- The reply frame: status, two length bytes, data (R195). -/
def replyBytes (st : Status) (data : List Byte) : List Byte := st.code :: be 2 data.length ++ data

def BusRate.code : BusRate → Byte
  | .k62 => 0 | .k125 => 1 | .k250 => 2 | .k500 => 3

def BusRate.ofCode (b : Byte) : Option BusRate :=
  match b.toNat with
  | 0 => some .k62 | 1 => some .k125 | 2 => some .k250 | 3 => some .k500 | _ => none

/-- The bit time in µs (R2). -/
def BusRate.bitTime : BusRate → Nat
  | .k62 => 16 | .k125 => 8 | .k250 => 4 | .k500 => 2

def LinkState.code : LinkState → Byte
  | .config => 0 | .offline => 1 | .integrating => 2 | .active => 3 | .quiet => 4

def SlotKind.frameKind : SlotKind → FrameKind
  | .cue => .cue | .call => .call

def SlotKind.ofCode (b : Byte) : Option SlotKind :=
  match b.toNat with
  | 0 => some .cue | 1 => some .call | _ => none

def SlotState.code : SlotState → Byte
  | .empty => 0 | .loaded => 1 | .pending => 2 | .sending => 3 | .sent => 4 | .failed => 5
  | .aborted => 6

def TxCode.code : TxCode → Byte
  | .ok => 1 | .lost => 2 | .bit => 3 | .stuff => 4 | .form => 5 | .hold => 6

/-- Last completion code, NONE included. -/
def lastCodeByte : Option TxCode → Byte
  | none => 0 | some c => c.code

def CallState.code : CallState → Byte
  | .free => 0 | .reserved => 1 | .opened => 2 | .withdrawing => 3 | .settled => 4

def CallOutcome.code : CallOutcome → Byte
  | .allDone => 1 | .unanswered => 2 | .expired => 3 | .withdrawn => 4 | .withdrawFailed => 5
  | .abandoned => 6

/-- Call outcome, NONE included. -/
def outcomeByte : Option CallOutcome → Byte
  | none => 0 | some o => o.code

def OblState.code : OblState → Byte
  | .free => 0 | .reserved => 1 | .opened => 2 | .finishing => 3 | .failed => 4 | .withdrawn => 5

def TriggerKind.code : TriggerKind → Byte
  | .none => 0 | .cueMatch => 1 | .inputEdge => 2 | .timerExpire => 3 | .countMatch => 4
  | .trainPulse => 5 | .trainDone => 6 | .slotDone => 7 | .callSettled => 8
  | .obligationOpened => 9 | .obligationWithdrawn => 10 | .reactionFired => 11 | .holdBegin => 12
  | .holdPersists => 13 | .holdEnd => 14

def TriggerKind.ofCode (b : Byte) : Option TriggerKind :=
  match b.toNat with
  | 0 => some .none | 1 => some .cueMatch | 2 => some .inputEdge | 3 => some .timerExpire
  | 4 => some .countMatch | 5 => some .trainPulse | 6 => some .trainDone | 7 => some .slotDone
  | 8 => some .callSettled | 9 => some .obligationOpened | 10 => some .obligationWithdrawn
  | 11 => some .reactionFired | 12 => some .holdBegin | 13 => some .holdPersists
  | 14 => some .holdEnd | _ => none

def ActionKind.code : ActionKind → Byte
  | .send => 0 | .timerStart => 1 | .timerStop => 2 | .trainStart => 3 | .trainStop => 4
  | .outputSet => 5 | .outputClear => 6 | .outputToggle => 7 | .counterClear => 8 | .arm => 9
  | .disarm => 10 | .finish => 11 | .holdPulse => 12 | .notify => 13

def ActionKind.ofCode (b : Byte) : Option ActionKind :=
  match b.toNat with
  | 0 => some .send | 1 => some .timerStart | 2 => some .timerStop | 3 => some .trainStart
  | 4 => some .trainStop | 5 => some .outputSet | 6 => some .outputClear | 7 => some .outputToggle
  | 8 => some .counterClear | 9 => some .arm | 10 => some .disarm | 11 => some .finish
  | 12 => some .holdPulse | 13 => some .notify | _ => none

def GateKind.code : GateKind → Byte
  | .none => 0 | .high => 1 | .low => 2

def GateKind.ofCode (b : Byte) : Option GateKind :=
  match b.toNat with
  | 0 => some .none | 1 => some .high | 2 => some .low | _ => none

def ArmState.code : ArmState → Byte
  | .disarmed => 0 | .armed => 1 | .spent => 2

def RefusalReason.code : RefusalReason → Byte
  | .linkNotJoined => 1 | .slotEmpty => 2 | .noCallEntry => 3 | .linkNotActive => 4
  | .noOpenObligation => 5 | .lineOwnedByTrain => 6

/-- Action result and refusal reason as two bytes (R206, R210). -/
def resultBytes : Option ActionResult → List Byte
  | none => [0, 0]
  | some .done => [1, 0]
  | some (.refused r) => [2, r.code]

def CounterEdge.code : CounterEdge → Byte
  | .none => 0 | .rise => 1 | .fall => 2 | .both => 3

def CounterEdge.ofCode (b : Byte) : Option CounterEdge :=
  match b.toNat with
  | 0 => some .none | 1 => some .rise | 2 => some .fall | 3 => some .both | _ => none

def TimerMode.code : TimerMode → Byte
  | .once => 0 | .repeating => 1

def TimerMode.ofCode (b : Byte) : Option TimerMode :=
  match b.toNat with
  | 0 => some .once | 1 => some .repeating | _ => none

def TrainPart.code : TrainPart → Byte
  | .rest => 0 | .active => 1

/-- A yes/no or level byte: 0 or 1, anything else out of range (R213). -/
def boolOfCode (b : Byte) : Option Bool :=
  match b.toNat with
  | 0 => some false | 1 => some true | _ => none

def Owner.ofCode (b : Byte) : Option Owner :=
  match b.toNat with
  | 0 => some .level | 1 => some (.train 0) | 2 => some (.train 1) | _ => none

/-- The detail byte of an occurrence (R211). -/
def Occurrence.detail : Occurrence → Byte
  | .inputEdge _ .rise => 0 | .inputEdge _ .fall => 1
  | .trainDone _ .complete => 0 | .trainDone _ .stopped => 1
  | .slotDone _ .sent => 0 | .slotDone _ .failed => 1 | .slotDone _ .aborted => 2
  | .callSettled _ o => o.code
  | .cueMatch _ | .timerExpire _ | .countMatch _ | .trainPulse _ | .obligationOpened _
  | .obligationWithdrawn _ | .reactionFired _ | .holdBegin | .holdPersists | .holdEnd => 0

/-- The trigger kind that an occurrence is of (R132). -/
def Occurrence.kind : Occurrence → TriggerKind
  | .cueMatch _ => .cueMatch
  | .inputEdge _ _ => .inputEdge
  | .timerExpire _ => .timerExpire
  | .countMatch _ => .countMatch
  | .trainPulse _ => .trainPulse
  | .trainDone _ _ => .trainDone
  | .slotDone _ _ => .slotDone
  | .callSettled _ _ => .callSettled
  | .obligationOpened _ => .obligationOpened
  | .obligationWithdrawn _ => .obligationWithdrawn
  | .reactionFired _ => .reactionFired
  | .holdBegin => .holdBegin
  | .holdPersists => .holdPersists
  | .holdEnd => .holdEnd

/-- The selector of an occurrence; the hold occurrences have none (R132). -/
def Occurrence.selector : Occurrence → Option Nat
  | .cueMatch f | .obligationOpened f | .obligationWithdrawn f => some f.val
  | .inputEdge k _ => some k.val
  | .timerExpire t => some t.val
  | .countMatch c => some c.val
  | .trainPulse g | .trainDone g _ => some g.val
  | .slotDone s _ => some s.val
  | .callSettled k _ => some k.val
  | .reactionFired r => some r.val
  | .holdBegin | .holdPersists | .holdEnd => none

/-- Trigger code, selector and detail of an occurrence (R211). An occurrence without a selector sends 0 for it,
the model's choice (log 26). -/
def Occurrence.bytes (o : Occurrence) : List Byte :=
  [o.kind.code, byte (o.selector.getD 0), o.detail]

/-- A chain's root in three bytes (R211). -/
def Root.bytes : Root → List Byte
  | .occurrence o => o.bytes
  | .force r => [0xFF, byte r.val, 0]

/-- An index or 0xFF for none (R206). -/
def indexOrNone {n : Nat} : Option (Fin n) → Byte
  | none => 0xFF
  | some i => byte i.val

/-! ## Replies of the read commands (R210 to R212) -/

/-- The call entry field of a slot: index and generation (R210). -/
def callFieldBytes : Option (Fin 8 × BitVec 3) → List Byte
  | none => [0xFF, 0xFF]
  | some (i, g) => [byte i.val, byte g.toNat]

def Slot.marks (sl : Slot) : Byte :=
  byte (sl.rerun.toNat + 2 * sl.abort.toNat + 4 * sl.abortTooLate.toNat + 8 * sl.rerunDropped.toNat)

/-- SLOT READ (R210), 26 bytes. -/
def Slot.bytes (sl : Slot) : List Byte :=
  [sl.state.code, byte sl.priority.toNat, byte sl.kind.frameKind.code] ++ be 2 sl.topic.toNat
    ++ [byte sl.payload.length] ++ padded 8 sl.payload ++ be 2 sl.deadline
    ++ [byte sl.attempts, byte sl.losses, lastCodeByte sl.lastCode, sl.marks]
    ++ callFieldBytes sl.call ++ be 4 sl.sentAt.toNat

/-- A delivered receive record (R212). -/
def RxRecord.bytes (r : RxRecord) : List Byte :=
  [byte r.filter.val, byte r.kind.code, byte r.priority.toNat] ++ be 2 r.topic.toNat
    ++ [byte r.source.toNat, byte r.data.length] ++ r.data ++ be 4 r.endedAt.toNat
    ++ (match r.responses with
      | none => [0xFF]
      | some l => byte l.length :: l)

def stationListBytes (l : List Station) : List Byte :=
  byte l.length :: l.map fun s => byte s.toNat

def CallResult.replyBytes (r : CallResult) : List Byte :=
  [byte r.station.toNat, r.status, byte r.bytes.length, boolByte r.late] ++ r.bytes
    ++ be 4 r.arrivedAt.toNat

/-- CALL READ (R211). -/
def CallEntry.bytes (e : CallEntry) : List Byte :=
  [e.state.code, byte e.generation.toNat, indexOrNone e.slot]
    ++ be 2 e.topic.toNat ++ be 2 e.deadline ++ be 2 e.remaining ++ be 2 e.fraction
    ++ [outcomeByte e.outcome, boolByte e.withdrawPending, byte e.withdrawAttempts]
    ++ be 4 e.openedAt.toNat ++ be 4 e.settledAt.toNat
    ++ stationListBytes e.enrolled ++ stationListBytes e.busy ++ stationListBytes e.outstanding
    ++ stationListBytes e.unanswered
    ++ byte e.results.length :: (e.results.map CallResult.replyBytes).flatten

/-- OBL READ (R210), 22 bytes. Where the entry holds no result, status byte and result byte count are sent as 0,
the model's choice (log 25). -/
def Obligation.bytes (o : Obligation) (inFlight : Bool) : List Byte :=
  [o.state.code, byte o.tag.caller.toNat, byte o.tag.index.toNat, byte o.tag.generation.toNat]
    ++ be 2 o.topic.toNat ++ [byte o.filter.val] ++ be 4 o.openedAt.toNat
    ++ (match o.result with
      | none => [0, 0, 0] ++ padded 6 []
      | some (st, bs) => [1, st, byte bs.length] ++ padded 6 bs)
    ++ [byte o.attempts, boolByte inFlight]

/-- The eleven field bytes of a REACTION entry (R213). -/
def ReactionDef.bytes (d : ReactionDef) : List Byte :=
  [d.trigger.code, d.selector, d.qualifier, d.gate.code, d.gateLine, d.action.code, d.target]
    ++ be 2 d.parameter.toNat ++ [byte d.budget, boolByte d.initialArmed]

/-- The run-state group of REACT READ (R211), 11 bytes. -/
def ReactionRun.bytes (r : ReactionRun) : List Byte :=
  [r.arm.code, byte r.remaining] ++ be 2 r.fireCount ++ be 4 r.firedAt.toNat
    ++ resultBytes r.lastResult ++ [r.lastNotice]

def refusalBytes : Option RefusalRecord → List Byte
  | none => padded 8 []
  | some r => [1, byte r.reaction.val, r.action.code, r.reason.code] ++ be 4 r.stamp.toNat

def chainBytes : Option ChainRecord → List Byte
  | none => padded 12 []
  | some r => [1, byte r.reaction.val] ++ r.reached.bytes ++ r.root.bytes ++ be 4 r.stamp.toNat

/-- TIMER READ (R210), 8 bytes. -/
def Timer.bytes (t : Timer) : List Byte :=
  be 3 t.limit ++ [t.mode.code, boolByte t.running] ++ be 3 t.count

/-- COUNTER READ (R210), 8 bytes. -/
def Counter.bytes (c : Counter) : List Byte :=
  [byte c.source.val, c.edge.code] ++ be 3 c.compare.toNat ++ be 3 c.count.toNat

/-- TRAIN READ (R210), 14 bytes. -/
def Train.bytes (t : Train) : List Byte :=
  [byte t.line.val] ++ be 2 t.period ++ be 2 t.width ++ be 2 t.count.toNat
    ++ [boolByte t.running, t.part.code] ++ be 2 t.elapsed ++ be 2 t.pulses.toNat
    ++ [boolByte t.stopMark]

/-- Eight levels as a bit field, bit k for line k (R206). -/
def levelsByte (level : Fin 8 → Bool) : Byte :=
  (List.finRange 8).foldl (fun v k => if level k then withBit v k.val else v) 0

end Sys2Proof.Machine
end

