-- ==== Sys2Proof/Machine/Flags.lean ====
section
/-! DEFINITION. The Event Unit's flags, enables and detail sets with INT (R199 to R204), and the
statistics counters with the flag they raise (R41). -/

namespace Sys2Proof.Machine

/-! ## Flags (R199) -/

/-- The bit of a flag: its position less one (R206). -/
def Flag.ix : Flag → Fin 12
  | .holdNote => 0 | .linkNote => 1 | .reactLimit => 2 | .rxOverrun => 3 | .callSettled => 4
  | .oblNote => 5 | .callNote => 6 | .oblOpened => 7 | .slotDone => 8 | .reactNotice => 9
  | .rxReady => 10 | .busError => 11

/-- A flag is set. -/
def State.flag (s : State) (f : Flag) : Bool := s.eu.flags.getLsbD f.ix.val

/-- Setting a flag; one already set stays set (R199). -/
def State.setFlag (s : State) (f : Flag) : State :=
  { s with eu := { s.eu with flags := withBit s.eu.flags f.ix.val } }

/-- Clearing a flag. -/
def State.clearFlag (s : State) (f : Flag) : State :=
  { s with eu := { s.eu with flags := s.eu.flags &&& ~~~(withBit 0 f.ix.val) } }

/-- FLAGS READ clears every flag except RX_READY (R202). -/
def State.clearHeldFlags (s : State) : State :=
  { s with eu := { s.eu with flags := s.eu.flags &&& withBit 0 Flag.rxReady.ix.val } }

/-- INT is driven low while a flag is both set and enabled (R201). -/
def State.intLow (s : State) : Bool := s.eu.flags &&& s.eu.enables != 0

/-- The position of the highest-priority flag that is set and enabled, or 0 (R203). -/
def State.flagIndex (s : State) : Nat :=
  match (List.finRange 12).find? fun p => (s.eu.flags &&& s.eu.enables).getLsbD p.val with
  | some p => p.val + 1
  | none => 0

/-! ## Detail sets (R204): a member already present stays present -/

def State.addSlotDone (s : State) (i : Fin 8) : State :=
  { s with eu := { s.eu with slotsDone := withBit s.eu.slotsDone i.val } }

def State.addCallSettled (s : State) (i : Fin 8) : State :=
  { s with eu := { s.eu with callsSettled := withBit s.eu.callsSettled i.val } }

def State.addOblOpened (s : State) (i : Fin 8) : State :=
  { s with eu := { s.eu with oblsOpened := withBit s.eu.oblsOpened i.val } }

def State.addOblChanged (s : State) (i : Fin 8) : State :=
  { s with eu := { s.eu with oblsChanged := withBit s.eu.oblsChanged i.val } }

/-- A change of an obligation entry that the host is told of: its detail bit and OBL_NOTE (R127). -/
def State.noteOblChanged (s : State) (i : Fin 8) : State := (s.addOblChanged i).setFlag .oblNote

/-! ## Statistics counters (R41) -/

/-- The place of a counter in the table of R41. -/
def Stat.ix : Stat → Fin 11
  | .rxCheck => 0 | .rxStuff => 1 | .rxForm => 2 | .txBit => 3 | .txStuff => 4 | .txForm => 5
  | .failed => 6 | .losses => 7 | .overruns => 8 | .stray => 9 | .crowded => 10

/-- A statistics counter's value. -/
def State.stat (s : State) (c : Stat) : Nat := s.lc.stats[c.ix]

/-- One counted event: the counter rises, saturating at 255, and BUS_ERROR is set (R41). -/
def State.countStat (s : State) (c : Stat) : State :=
  { s with lc := { s.lc with stats := s.lc.stats.set c.ix (min (s.lc.stats[c.ix] + 1) 255) } }.setFlag
    .busError

/-- STATS READ sets all counters to 0 (R42). -/
def State.clearStats (s : State) : State :=
  { s with lc := { s.lc with stats := Vector.replicate 11 0 } }

/-- The counters that a settled code of an own attempt raises (R41). -/
def State.countAttempt (s : State) : TxCode → State
  | .bit => (s.countStat .txBit).countStat .failed
  | .stuff => (s.countStat .txStuff).countStat .failed
  | .form => (s.countStat .txForm).countStat .failed
  | .lost => s.countStat .losses
  | .ok => s
  | .hold => s

/-- The counter that a settled receiver code raises (R41). -/
def State.countReceive (s : State) : RxCode → State
  | .check => s.countStat .rxCheck
  | .stuff => s.countStat .rxStuff
  | .form => s.countStat .rxForm

end Sys2Proof.Machine
end

