-- ==== Sys2Proof/Machine/Ops.lean ====
section
/-! DEFINITION. The shared operations of the blocks: the tables, the transmit arbiter, the own hold,
slots, calls, obligations, timers, trains, outputs and reaction run states. Commands, events and
reaction actions are built from these. -/

namespace Sys2Proof.Machine

/-! ## Tables -/

def State.slot (s : State) (i : Fin 8) : Slot := s.outbox[i]

def State.setSlot (s : State) (i : Fin 8) (x : Slot) : State := { s with outbox := s.outbox.set i x }

def State.call (s : State) (k : Fin 8) : CallEntry := s.cu[k]

def State.setCall (s : State) (k : Fin 8) (x : CallEntry) : State := { s with cu := s.cu.set k x }

def State.obl (s : State) (o : Fin 8) : Obligation := s.ou.entries[o]

def State.setObl (s : State) (o : Fin 8) (x : Obligation) : State :=
  { s with ou := { s.ou with entries := s.ou.entries.set o x } }

def State.setVerdict (s : State) (v : Option Verdict) : State :=
  { s with ou := { s.ou with verdict := v } }

def State.timer (s : State) (t : Fin 4) : Timer := s.tu.timers[t]

def State.setTimer (s : State) (t : Fin 4) (x : Timer) : State :=
  { s with tu := { s.tu with timers := s.tu.timers.set t x } }

def State.counter (s : State) (c : Fin 2) : Counter := s.tu.counters[c]

def State.setCounter (s : State) (c : Fin 2) (x : Counter) : State :=
  { s with tu := { s.tu with counters := s.tu.counters.set c x } }

def State.train (s : State) (g : Fin 2) : Train := s.tu.trains[g]

def State.setTrain (s : State) (g : Fin 2) (x : Train) : State :=
  { s with tu := { s.tu with trains := s.tu.trains.set g x } }

def State.input (s : State) (k : Fin 8) : InputLine := s.lu.inputs[k]

def State.setInput (s : State) (k : Fin 8) (x : InputLine) : State :=
  { s with lu := { s.lu with inputs := s.lu.inputs.set k x } }

def State.output (s : State) (k : Fin 8) : OutputLine := s.lu.outputs[k]

def State.setOutput (s : State) (k : Fin 8) (x : OutputLine) : State :=
  { s with lu := { s.lu with outputs := s.lu.outputs.set k x } }

def State.reaction (s : State) (r : Fin 24) : ReactionDef := s.re.defs[r]

def State.run (s : State) (r : Fin 24) : ReactionRun := s.re.runs[r]

def State.setRun (s : State) (r : Fin 24) (x : ReactionRun) : State :=
  { s with re := { s.re with runs := s.re.runs.set r x } }

def State.filter (s : State) (f : Fin 16) : Filter := s.au.filters[f]

/-- A change of the Link Controller alone. -/
def State.setLc (s : State) (x : LinkController) : State := { s with lc := x }

/-- The time base as it stands: every timestamp is this value (R158). -/
def State.now (s : State) : Stamp := s.tu.timeBase

/-! ## Own hold and transmit permission (R28, R33) -/

/-- The own hold assertion is not empty (R33). -/
def State.ownHold (s : State) : Bool := s.lc.holdFlag || s.lc.pulse != 0

/-- Transmit permission: link ACTIVE, line CLEAR, own hold empty (R28). -/
def State.permission (s : State) : Bool := s.lc.state == .active && !s.lc.held && !s.ownHold

/-! ## The transmit arbiter (R62 to R67) -/

/-- The call tag of an entry: own station, index, generation (R85). -/
def State.callTag (s : State) (k : Fin 8) : CallTag :=
  { caller := s.lc.station, index := BitVec.ofNat 3 k.val, generation := (s.call k).generation }

/-- What makes a frame a candidate: its owner's state (R62). -/
def State.isCandidate (s : State) : Candidate → Bool
  | .slot i => (s.slot i).state == .pending
  | .obligation o => (s.obl o).state == .finishing && s.lc.inFlight != some (.obligation o)
  | .withdraw k => (s.call k).withdrawPending && s.lc.inFlight != some (.withdraw k)

/-- Priority, kind and topic as one number: the arbitration field without the source, which all
candidates share (R62, R64). -/
def State.arbitrationKey (s : State) : Candidate → Nat
  | .slot i =>
    let sl := s.slot i
    (sl.priority.toNat * 8 + sl.kind.frameKind.code) * 4096 + sl.topic.toNat
  | .obligation o =>
    (s.lc.protocolPriority.toNat * 8 + FrameKind.done.code) * 4096 + (s.obl o).tag.topic.toNat
  | .withdraw k =>
    (s.lc.protocolPriority.toNat * 8 + FrameKind.withdraw.code) * 4096 + (s.callTag k).topic.toNat

/-- Every place a candidate can come from, in the order that settles ties: slots first, lower index
first (R64). -/
def candidatePlaces : List Candidate :=
  (List.finRange 8).map .slot ++ (List.finRange 8).map .obligation ++ (List.finRange 8).map .withdraw

/-- The better of a candidate held and a further one: the further one only if its field is lower. -/
def State.better (s : State) (held : Option Candidate) (c : Candidate) : Option Candidate :=
  match held with
  | none => some c
  | some h => if s.arbitrationKey c < s.arbitrationKey h then some c else some h

/-- The candidate with the lowest arbitration field (R64). -/
def State.bestCandidate (s : State) : Option Candidate :=
  (candidatePlaces.filter s.isCandidate).foldl s.better none

/-- A choice may be held: permission, an idle bus, nothing in flight (R63). -/
def State.mayChoose (s : State) : Bool :=
  s.permission && s.lc.phase == .idle && s.lc.inFlight == none

/-- The choice held is cancelled when its candidate is withdrawn or permission or the idle bus is
lost (R65, R67). -/
def State.dropChoice (s : State) : State :=
  match s.lc.choice with
  | some c =>
    if s.isCandidate c.candidate && s.mayChoose then s else s.setLc { s.lc with choice := none }
  | none => s

/-- The arbiter after any change that may concern it: a choice that no longer stands is cancelled,
and where none is then held and one may be, the best candidate is chosen (R63, R65, R67; log 9). -/
def State.arbiter (s : State) : State :=
  let t := s.dropChoice
  if t.mayChoose && t.lc.choice == none then
    t.setLc { t.lc with choice := t.bestCandidate.map fun c => { candidate := c, due := false } }
  else t

/-- The choice held at the end of a line event has its SOF in the next bit time (R12; log 7). -/
def State.ripen (s : State) : State :=
  s.setLc { s.lc with choice := s.lc.choice.map fun c => { c with due := true } }

/-! ## The station's own hold (R33 to R36) -/

/-- HOLD ASSERT's effect: the persistent flag; a choice held loses permission (R34, R67). -/
def State.setHoldFlag (s : State) : State := (s.setLc { s.lc with holdFlag := true }).arbiter

/-- A pulse started afresh (R35). An end that waits belongs to the pulse replaced and is dropped. -/
def State.startPulse (s : State) (n : Nat) : State :=
  (s.setLc { s.lc with pulse := n, due := s.lc.due.filter (· != .pulseEnds) }).arbiter

/-- Both parts of the own hold cleared (R36). -/
def State.clearOwnHold (s : State) : State :=
  s.setLc { s.lc with holdFlag := false, pulse := 0, due := s.lc.due.filter (· != .pulseEnds) }

/-- The pulse length of a HOLD_PULSE parameter (R35). -/
def State.pulseLength (s : State) (parameter : BitVec 16) : Nat :=
  if parameter == 0 then s.lc.holdLength else max parameter.toNat 32

/-! ## Call entries (R84 to R92) -/

/-- A station put into an ascending list without duplicates. -/
def insertStation (x : Station) : List Station → List Station
  | [] => [x]
  | y :: ys => if x < y then x :: y :: ys else if x = y then y :: ys else y :: insertStation x ys

/-- The lowest-index FREE entry (R48). -/
def State.lowestFreeCall (s : State) : Option (Fin 8) :=
  (List.finRange 8).find? fun k => (s.call k).state == .free

/-- The reservation of entry `k` for slot `i` (R88). -/
def State.reserveCall (s : State) (i k : Fin 8) : State :=
  s.setCall k
    { CallEntry.freeWith ((s.call k).generation + 1) with
      state := .reserved
      slot := some i
      topic := (s.slot i).topic
      deadline := (s.slot i).deadline }

/-- The release of an entry: FREE with its generation kept (R88, R102). -/
def State.releaseCall (s : State) (k : Fin 8) : State :=
  s.setCall k (CallEntry.freeWith (s.call k).generation)

/-- The account lists moved by a settlement: every outcome but ALL_DONE gives up the stations still
outstanding (R86, R87). -/
def CallEntry.giveUp (e : CallEntry) (o : CallOutcome) : CallEntry :=
  if o = .allDone then e
  else { e with
    unanswered := e.outstanding.foldl (fun l x => insertStation x l) e.unanswered
    outstanding := [] }

/-- A settlement (R87), but for its occurrence, which the caller hands on. -/
def State.settleCall (s : State) (k : Fin 8) (o : CallOutcome) : State :=
  let e := (s.call k).giveUp o
  (((s.setCall k
    { e with
      state := .settled
      outcome := some o
      settledAt := s.now
      withdrawPending := false
      expiring := false }).setFlag .callSettled).addCallSettled k).arbiter

/-- One response byte of the opening (R89): bytes naming the own station or a station already listed
are left out. -/
def listResponse (own : Station) (lists : List Station × List Station) (b : Byte) :
    List Station × List Station :=
  let st := responseStation b
  if st = own || lists.1.contains st || lists.2.contains st then lists
  else if responseBusy b then (lists.1, insertStation st lists.2)
  else (insertStation st lists.1, lists.2)

/-- The enrolment and busy lists of a response list (R89). -/
def responseLists (own : Station) (responses : List Byte) : List Station × List Station :=
  responses.foldl (listResponse own) ([], [])

/-- The opening of a call, or its settlement UNANSWERED (R86, R90). The entry goes on naming the slot that reserved
it, the model's choice (log 27). -/
def State.openCall (s : State) (k : Fin 8) (responses : List Byte) : State × List Occurrence :=
  let lists := responseLists s.lc.station responses
  let e := { s.call k with
    enrolled := lists.1
    busy := lists.2
    outstanding := lists.1
    results := []
    unanswered := []
    openedAt := s.now }
  if lists.1.isEmpty then
    ((s.setCall k e).settleCall k .unanswered, [.callSettled k .unanswered])
  else
    (s.setCall k
      { e with state := .opened, remaining := e.deadline, fraction := 0 }, [])

/-! ## Slots (R44 to R61) -/

def DoneState.slotState : DoneState → SlotState
  | .sent => .sent | .failed => .failed | .aborted => .aborted

/-- A slot's fields at a new request (R47). -/
def Slot.requested (sl : Slot) (call : Option (Fin 8 × BitVec 3)) : Slot :=
  { sl with
    state := .pending
    attempts := 0
    losses := 0
    rerun := false
    abortTooLate := false
    rerunDropped := false
    call := call }

/-- A new request (R47, R48); none where a CALL slot finds no FREE call entry. -/
def State.newRequest (s : State) (i : Fin 8) : Option State :=
  match (s.slot i).kind with
  | .cue => some (s.setSlot i ((s.slot i).requested none)).arbiter
  | .call =>
    match s.lowestFreeCall with
    | none => none
    | some k =>
      some (((s.reserveCall i k).setSlot i
        ((s.slot i).requested (some (k, (s.call k).generation + 1)))).arbiter)

/-- The result of a request on a slot (R47, R50). -/
inductive RequestResult where
  | new | alreadyPending | rerun | empty | full
  deriving DecidableEq, Repr

/-- A request taken against the slot's state (R47 to R50). -/
def State.requestSlot (s : State) (i : Fin 8) : State × RequestResult :=
  match (s.slot i).state with
  | .empty => (s, .empty)
  | .pending => (s, .alreadyPending)
  | .sending => (s.setSlot i { s.slot i with rerun := true }, .rerun)
  | .loaded | .sent | .failed | .aborted =>
    match s.newRequest i with
    | some t => (t, .new)
    | none => (s, .full)

/-- The end of a CALL slot's binding at a done state (R58). -/
def State.endBinding (s : State) (i : Fin 8) (d : DoneState) (responses : List Byte) :
    State × List Occurrence :=
  match (s.slot i).kind, (s.slot i).call with
  | .call, some (k, _) =>
    if d = .sent then s.openCall k responses
    else ((s.releaseCall k).setSlot i { s.slot i with call := none }, [])
  | _, _ => (s, [])

/-- A set rerun mark at a done state: a new request, or dropped for want of a call entry (R59). -/
def State.applyRerun (s : State) (i : Fin 8) : State :=
  if (s.slot i).rerun then
    match s.newRequest i with
    | some t => t
    | none =>
      (s.setSlot i { s.slot i with rerun := false, rerunDropped := true }).setFlag .callNote
  else s

/-- A slot's arrival at a done state (R57), with the occurrences handed on, the call's first. -/
def State.arriveDone (s : State) (i : Fin 8) (d : DoneState) (responses : List Byte) :
    State × List Occurrence :=
  let s1 := ((s.setSlot i { s.slot i with state := d.slotState }).setFlag .slotDone).addSlotDone i
  let (s2, occ) := s1.endBinding i d responses
  (s2.applyRerun i, occ ++ [.slotDone i d])

/-- A return to PENDING after an attempt (R55): the rerun mark is cleared. -/
def State.returnPending (s : State) (i : Fin 8) (sl : Slot) : State × List Occurrence :=
  ((s.setSlot i { sl with state := .pending, rerun := false }).arbiter, [])

/-- What a slot becomes on its attempt's settled code (R55). An attempt that ends with the abort mark set leaves
attempts and losses as they stand, the model's choice (log 23). -/
def State.slotOutcome (s : State) (i : Fin 8) (code : TxCode) (responses : List Byte) :
    State × List Occurrence :=
  let aborted := (s.slot i).abort
  let sl := { s.slot i with lastCode := some code, abort := false }
  match code with
  | .ok =>
    (s.setSlot i { sl with sentAt := s.now, abortTooLate := aborted || sl.abortTooLate }).arriveDone
      i .sent responses
  | .lost =>
    if aborted then (s.setSlot i sl).arriveDone i .aborted []
    else s.returnPending i { sl with losses := min (sl.losses + 1) 255 }
  | .hold =>
    if aborted then (s.setSlot i sl).arriveDone i .aborted []
    else s.returnPending i sl
  | .bit | .stuff | .form =>
    if aborted then (s.setSlot i sl).arriveDone i .aborted []
    else if sl.attempts + 1 > s.lc.retryLimit then
      (s.setSlot i { sl with attempts := sl.attempts + 1 }).arriveDone i .failed []
    else s.returnPending i { sl with attempts := sl.attempts + 1 }

/-! ## Obligations (R111 to R125) -/

/-- An entry goes FREE with the free values; a choice of its DONE is cancelled (R125). -/
def State.freeObl (s : State) (o : Fin 8) : State := (s.setObl o Obligation.free).arbiter

/-- An entry goes FINISHING with a report (R120). -/
def State.finishObl (s : State) (o : Fin 8) (status : Byte) (bytes : List Byte) : State :=
  (s.setObl o
    { s.obl o with state := .finishing, result := some (status, bytes), attempts := 0 }).arbiter

/-- The µs since an entry was opened, modulo 2^32 (R121). -/
def State.oblAge (s : State) (o : Fin 8) : Nat := (s.now - (s.obl o).openedAt).toNat

/-- Of an entry held and a further one of the same filter, the one opened earlier; the held one where
equal (R121). -/
def State.older (s : State) (held : Option (Fin 8)) (o : Fin 8) : Option (Fin 8) :=
  match held with
  | none => some o
  | some h => if s.oblAge h < s.oblAge o then some o else some h

/-- The OPEN entry of filter `f` opened earliest (R121). -/
def State.oldestOpen (s : State) (f : Fin 16) : Option (Fin 8) :=
  ((List.finRange 8).filter fun o => (s.obl o).state == .opened && (s.obl o).filter == f).foldl
    s.older none

/-- What a FINISHING entry becomes on its DONE's settled code (R123). -/
def State.doneOutcome (s : State) (o : Fin 8) : TxCode → State
  | .ok => (s.setObl o Obligation.free).noteOblChanged o
  | .lost | .hold => s
  | .bit | .stuff | .form =>
    let e := { s.obl o with attempts := (s.obl o).attempts + 1 }
    if e.attempts > s.lc.retryLimit then (s.setObl o { e with state := .failed }).noteOblChanged o
    else s.setObl o e

/-- What a WITHDRAWING entry becomes on its WITHDRAW's settled code (R99). -/
def State.withdrawOutcome (s : State) (k : Fin 8) : TxCode → State × List Occurrence
  | .ok => (s.settleCall k .withdrawn, [.callSettled k .withdrawn])
  | .lost | .hold => (s, [])
  | .bit | .stuff | .form =>
    let t := s.setCall k { s.call k with withdrawAttempts := (s.call k).withdrawAttempts + 1 }
    if (t.call k).withdrawAttempts > s.lc.retryLimit then
      (t.settleCall k .withdrawFailed, [.callSettled k .withdrawFailed])
    else (t, [])

/-- The settled code of the candidate in flight is handed to its owner, and nothing is in flight any
more (R66). -/
def State.handOutcome (s : State) (c : Candidate) (code : TxCode) (responses : List Byte) :
    State × List Occurrence :=
  let t := s.setLc { s.lc with inFlight := none }
  match c with
  | .slot i => t.slotOutcome i code responses
  | .obligation o => (t.doneOutcome o code, [])
  | .withdraw k => t.withdrawOutcome k code

/-- The RESERVED entry of a broken or crowded verdict goes FREE; a re-used one is left (R116, R117). -/
def State.releaseVerdict (s : State) : State :=
  match s.ou.verdict with
  | some { answer := .reserved o, .. } =>
    if (s.obl o).state = .reserved then s.setObl o Obligation.free else s
  | _ => s

/-- The break of a frame at this station: the reservation is released and the verdict record ends
(R113, R117). -/
def State.breakVerdict (s : State) : State := s.releaseVerdict.setVerdict none

/-! ## Timers (R159 to R162) -/

/-- A start from count 0 (R161). An expiry that waits is dropped (R163). -/
def State.startTimer (s : State) (t : Fin 4) : State :=
  s.setTimer t { s.timer t with running := true, count := 0, expiring := false }

/-- A stop (R161). -/
def State.stopTimer (s : State) (t : Fin 4) : State :=
  s.setTimer t { s.timer t with running := false, count := 0, expiring := false }

/-- The expiry of a timer by its mode (R160). -/
def Timer.expired (t : Timer) : Timer :=
  { t with running := t.mode == .repeating, count := 0, expiring := false }

/-! ## Outputs and trains (R168 to R178) -/

/-- A line's level, owner and rest level kept. -/
def State.driveOutput (s : State) (k : Fin 8) (level : Bool) : State :=
  s.setOutput k { s.output k with level := level }

/-- The line of a train at its rest or active level (R169, R178). -/
def State.driveTrain (s : State) (g : Fin 2) (active : Bool) : State :=
  let k := (s.train g).line
  s.driveOutput k ((s.output k).rest != active)

/-- A start of an IDLE train, or a restart of a running one (R169, R172). -/
def State.startTrain (s : State) (g : Fin 2) : State :=
  (s.setTrain g
    { s.train g with
      running := true, part := .rest, elapsed := 0, pulses := 0, stopMark := false, edgeDue := false
      }).driveTrain g false

/-- A train gone IDLE, its pulse number kept (R170). -/
def Train.idled (t : Train) : Train :=
  { t with running := false, part := .rest, elapsed := 0, stopMark := false, edgeDue := false }

/-- A stop by state and part (R171), with the occurrence of a stop in REST. -/
def State.stopTrain (s : State) (g : Fin 2) : State × List Occurrence :=
  let t := s.train g
  if t.running then
    match t.part with
    | .rest => (s.setTrain g t.idled, [.trainDone g .stopped])
    | .active => (s.setTrain g { t with stopMark := true }, [])
  else (s, [])

/-! ## Reaction run states (R149, R151, R152) -/

/-- REACT ARM and the action ARM (R151). -/
def State.armReaction (s : State) (r : Fin 24) : State :=
  match (s.run r).arm with
  | .disarmed => s.setRun r { s.run r with arm := .armed }
  | .spent => s.setRun r { s.run r with arm := .armed, remaining := (s.reaction r).budget }
  | .armed => s

/-- REACT DISARM and the action DISARM (R152). -/
def State.disarmReaction (s : State) (r : Fin 24) : State :=
  match (s.run r).arm with
  | .armed => s.setRun r { s.run r with arm := .disarmed }
  | .disarmed | .spent => s

end Sys2Proof.Machine
end

