-- ==== Sys2Proof/Machine/Accept.lean ====
section
/-! DEFINITION. What a frame received whole means to the blocks: matching and the record offer (R70 to
R78), the verdict at the EOD point and the window's outcome (R74, R112 to R118), DONE and WITHDRAW
arrivals (R93 to R96, R124). -/

namespace Sys2Proof.Machine

/-! ## Matching (R70 to R74) -/

/-- The bit of a kind in a filter's kinds set (R206). -/
def Filter.hasKind (f : Filter) (k : FrameKind) : Bool := f.kinds.getLsbD k.code

/-- The roles of a filter (R206). -/
def Filter.queues (f : Filter) : Bool := f.roles.getLsbD 0
def Filter.triggers (f : Filter) : Bool := f.roles.getLsbD 1
def Filter.enrols (f : Filter) : Bool := f.roles.getLsbD 2

/-- A filter agrees with a topic: equal wherever its mask compares (R70). -/
def State.agrees (s : State) (f : Filter) (topic : Topic) : Bool :=
  (topic ^^^ f.topic) &&& s.au.masks[ix 4 f.maskIndex] == 0

/-- A filter matches a frame of that kind and topic field (R70). -/
def State.filterMatches (s : State) (kind : FrameKind) (topic : Topic) (f : Fin 16) : Bool :=
  let x := s.filter f
  x.enabled && x.hasKind kind && s.agrees x topic

/-- The matching set, in ascending index (R72). -/
def State.matchingSet (s : State) (kind : FrameKind) (topic : Topic) : List (Fin 16) :=
  (List.finRange 16).filter (s.filterMatches kind topic)

/-- The enrolling filter of a CALL topic (R74). -/
def State.enrollingFilter (s : State) (topic : Topic) : Option (Fin 16) :=
  (List.finRange 16).find? fun f => s.filterMatches .call topic f && (s.filter f).enrols

/-- The record offered to the Receive Queue: added at the tail, or discarded at a full queue (R77, R78). -/
def State.offerRecord (s : State) (r : RxRecord) : State :=
  if s.rq.length < Config.queueCapacity then { s with rq := s.rq ++ [r] }.setFlag .rxReady
  else (s.countStat .overruns).setFlag .rxOverrun

/-- The record of a frame (R76). -/
def RxFrame.record (x : RxFrame) (filter : Fin 16) (now : Stamp) : RxRecord where
  filter := filter
  kind := x.kind
  priority := x.priority
  topic := x.topic
  source := x.source
  data := x.data
  endedAt := now
  responses := if x.kind = .call then some x.responses else none

/-- Matching filters enter the match set (R75). -/
def State.addMatches (s : State) (l : List (Fin 16)) : State :=
  { s with au := { s.au with matchSet := l.foldl (fun v f => withBit v f.val) s.au.matchSet } }

/-- The matching of a frame at its end (R72), with its CUE_MATCH series (R73). -/
def State.matchFrame (s : State) (x : RxFrame) : State × List Occurrence :=
  let l := s.matchingSet x.kind x.topic
  match l with
  | [] => (s, [])
  | recorded :: _ =>
    let t := s.addMatches l
    let u := if l.any fun f => (s.filter f).queues then t.offerRecord (x.record recorded s.now) else t
    (u, (l.filter fun f => (s.filter f).triggers).map .cueMatch)

/-! ## The verdict (R112 to R114) -/

/-- The entry in one of these states that holds a tag. -/
def State.holderOf (s : State) (states : List OblState) (tag : CallTag) : Option (Fin 8) :=
  (List.finRange 8).find? fun o => states.contains (s.obl o).state && (s.obl o).tag == tag

/-- The lowest-index FREE entry (R113). -/
def State.lowestFreeObl (s : State) : Option (Fin 8) :=
  (List.finRange 8).find? fun o => (s.obl o).state == .free

/-- A WITHDRAWN entry that holds the tag of a new reservation goes FREE (R114). -/
def State.supersede (s : State) (tag : CallTag) : State :=
  match s.holderOf [.withdrawn] tag with
  | some o => (s.setObl o Obligation.free).noteOblChanged o
  | none => s

/-- The reservation of entry `o` (R113). -/
def State.reserveObl (s : State) (o : Fin 8) (tag : CallTag) (topic : Topic) (filter : Fin 16) : State :=
  s.setObl o
    { Obligation.free with state := .reserved, tag := tag, topic := topic, filter := filter }

/-- The verdict on a call (R113), the lowest FREE entry chosen before a WITHDRAWN one is freed (R114). -/
def State.takeVerdict (s : State) (tag : CallTag) (topic : Topic) (filter : Fin 16) : State × Answer :=
  match s.holderOf [.opened, .finishing, .failed] tag with
  | some o => (s, .reused o)
  | none =>
    match s.lowestFreeObl with
    | some o => ((s.supersede tag).reserveObl o tag topic filter, .reserved o)
    | none => (s, .busy)

/-- The frame end at the Obligation Unit: a reservation that was placed is opened, no other entry is, and the
verdict record ends (R118). -/
def State.openObligation (s : State) : State × List Occurrence :=
  match s.ou.verdict with
  | some { answer := .reserved o, placed := true } =>
    if (s.obl o).state = .reserved then
      ((((s.setObl o { s.obl o with state := .opened, openedAt := s.now }).setFlag .oblOpened).addOblOpened
        o).setVerdict none, [.obligationOpened (s.obl o).filter])
    else (s.setVerdict none, [])
  | _ => (s.breakVerdict, [])

/-! ## DONE arrivals (R93 to R96) -/

/-- The outcomes at which a later report is late (R95). -/
def lateOutcomes : List CallOutcome := [.expired, .withdrawn, .withdrawFailed, .abandoned]

/-- The result of a DONE frame (R93). -/
def RxFrame.result (x : RxFrame) (late : Bool) (now : Stamp) : CallResult where
  station := x.source
  status := x.data.headD 0
  bytes := x.data.tail
  late := late
  arrivedAt := now

/-- A DONE arrival that is collected (R94). -/
def State.collectDone (s : State) (k : Fin 8) (x : RxFrame) : State × List Occurrence :=
  let e := s.call k
  let t := s.setCall k
    { e with results := e.results ++ [x.result false s.now], outstanding := e.outstanding.erase x.source }
  if (t.call k).outstanding.isEmpty then (t.settleCall k .allDone, [.callSettled k .allDone]) else (t, [])

/-- A late DONE arrival (R95). -/
def State.lateDone (s : State) (k : Fin 8) (x : RxFrame) : State :=
  let e := s.call k
  (s.setCall k
    { e with results := e.results ++ [x.result true s.now], unanswered := e.unanswered.erase x.source }).setFlag
    .callNote

/-- A stray DONE arrival (R96). -/
def State.strayDone (s : State) : State := (s.countStat .stray).setFlag .callNote

/-- A DONE arrival, judged against the entry that its tag's index selects (R93). -/
def State.doneArrival (s : State) (x : RxFrame) : State × List Occurrence :=
  let tag := CallTag.ofTopic x.topic
  let k : Fin 8 := Fin.ofNat 8 tag.index.toNat
  let e := s.call k
  if e.generation = tag.generation ∧ (e.state = .opened ∨ e.state = .withdrawing)
      ∧ x.source ∈ e.outstanding then
    s.collectDone k x
  else if e.generation = tag.generation ∧ e.state = .settled ∧ (∃ o ∈ e.outcome, o ∈ lateOutcomes)
      ∧ x.source ∈ e.unanswered then
    (s.lateDone k x, [])
  else (s.strayDone, [])

/-! ## WITHDRAW arrivals (R124) -/

/-- A WITHDRAW arrival. -/
def State.withdrawArrival (s : State) (x : RxFrame) : State × List Occurrence :=
  match s.holderOf [.opened, .finishing, .failed] (CallTag.ofTopic x.topic) with
  | some o =>
    if s.lc.inFlight = some (.obligation o) then (s, [])
    else
      (((s.setObl o { s.obl o with state := .withdrawn }).noteOblChanged o).arbiter,
        [.obligationWithdrawn (s.obl o).filter])
  | none => (s, [])

/-- A frame received whole is a DONE of one of this station's calls (R93). -/
def State.ownsDone (s : State) (x : RxFrame) : Bool :=
  x.kind == .done && (CallTag.ofTopic x.topic).caller == s.lc.station

end Sys2Proof.Machine
end

