-- ==== Sys2Proof/Machine/Engine.lean ====
section
/-! DEFINITION. The Reaction Engine: triggers, gates, the fourteen actions, firing, passes and chains
(R131 to R150). -/

namespace Sys2Proof.Machine

/-! ## Which entries an occurrence reaches (R132, R133) -/

/-- The qualifier, read as R187 gives, admits the occurrence's edge or outcome (R132). -/
def Occurrence.admittedBy (o : Occurrence) (qualifier : Byte) : Bool :=
  match o, qualifier.toNat with
  | .inputEdge _ .rise, 0 => true
  | .inputEdge _ .fall, 1 => true
  | .inputEdge _ _, 2 => true
  | .inputEdge _ _, _ => false
  | .trainDone _ .complete, 0 => true
  | .trainDone _ .stopped, 1 => true
  | .trainDone _ _, 2 => true
  | .trainDone _ _, _ => false
  | .slotDone _ .sent, 0 => true
  | .slotDone _ .failed, 1 => true
  | .slotDone _ .aborted, 1 => true
  | .slotDone _ _, 2 => true
  | .slotDone _ _, _ => false
  | .callSettled _ .allDone, 0 => true
  | .callSettled _ .allDone, 1 => false
  | .callSettled _ _, 1 => true
  | .callSettled _ _, 2 => true
  | .callSettled _ _, _ => false
  | _, _ => true

/-- An entry's trigger matches an occurrence (R132). -/
def ReactionDef.triggeredBy (d : ReactionDef) (o : Occurrence) : Bool :=
  d.trigger == o.kind
    && (match o.selector with
      | none => true
      | some n => d.selector.toNat == n)
    && o.admittedBy d.qualifier

/-- The gate is satisfied (R133). -/
def State.gateOpen (s : State) (d : ReactionDef) : Bool :=
  match d.gate with
  | .none => true
  | .high => (s.input (ix 8 d.gateLine)).level
  | .low => !(s.input (ix 8 d.gateLine)).level

/-- At its turn in the pass of `o`, entry `r` fires or is suppressed (R139). -/
def State.reached (s : State) (r : Fin 24) (o : Occurrence) : Bool :=
  (s.reaction r).triggeredBy o && (s.run r).arm == .armed && s.gateOpen (s.reaction r)

/-! ## Actions (R134, R146 to R150) -/

/-- What a performed action leaves: the state, its result, and the occurrences raised at once (R144). -/
structure Performed where
  state : State
  result : ActionResult
  raised : List Occurrence

/-- SEND (R50, R146). -/
def State.actSend (s : State) (i : Fin 8) : Performed :=
  match s.lc.state with
  | .config | .offline => { state := s, result := .refused .linkNotJoined, raised := [] }
  | .integrating | .active | .quiet =>
    match s.requestSlot i with
    | (t, .empty) => { state := t, result := .refused .slotEmpty, raised := [] }
    | (t, .full) => { state := t, result := .refused .noCallEntry, raised := [] }
    | (t, .new) | (t, .alreadyPending) | (t, .rerun) => { state := t, result := .done, raised := [] }

/-- TIMER_START: with a parameter, the limit first and in the same step (R147, R162). -/
def State.actTimerStart (s : State) (t : Fin 4) (parameter : BitVec 16) : State :=
  if parameter == 0 then s.startTimer t
  else (s.setTimer t { s.timer t with limit := parameter.toNat }).startTimer t

/-- OUTPUT_SET, OUTPUT_CLEAR and OUTPUT_TOGGLE: the new level from the old one (R148). -/
def State.actOutput (s : State) (k : Fin 8) (level : Bool → Bool) : Performed :=
  match (s.output k).owner with
  | .level => { state := s.driveOutput k (level (s.output k).level), result := .done, raised := [] }
  | .train _ => { state := s, result := .refused .lineOwnedByTrain, raised := [] }

/-- COUNTER CLEAR and COUNTER_CLEAR: no COUNT_MATCH is raised (R167). -/
def State.clearCounter (s : State) (c : Fin 2) : State :=
  s.setCounter c { s.counter c with count := 0 }

/-- FINISH: the OPEN obligation of filter `f` opened earliest (R121). -/
def State.actFinish (s : State) (f : Fin 16) (status : Byte) : Performed :=
  match s.oldestOpen f with
  | some o => { state := s.finishObl o status [], result := .done, raised := [] }
  | none => { state := s, result := .refused .noOpenObligation, raised := [] }

/-- HOLD_PULSE (R35, R146). -/
def State.actHoldPulse (s : State) (parameter : BitVec 16) : Performed :=
  if s.lc.state = .active then
    { state := s.startPulse (s.pulseLength parameter), result := .done, raised := [] }
  else { state := s, result := .refused .linkNotActive, raised := [] }

/-- NOTIFY by entry `r` (R150). -/
def State.actNotify (s : State) (r : Fin 24) (code : Byte) : State :=
  let t := s.setRun r { s.run r with lastNotice := code }
  { t with re := { t.re with notices := withBit t.re.notices r.val } }.setFlag .reactNotice

/-- The action of entry `r` (R134). Targets are in range from the first JOIN on (R189). -/
def State.perform (s : State) (r : Fin 24) : Performed :=
  let d := s.reaction r
  let done (t : State) : Performed := { state := t, result := .done, raised := [] }
  match d.action with
  | .send => s.actSend (ix 8 d.target)
  | .timerStart => done (s.actTimerStart (ix 4 d.target) d.parameter)
  | .timerStop => done (s.stopTimer (ix 4 d.target))
  | .trainStart => done (s.startTrain (ix 2 d.target))
  | .trainStop =>
    let p := s.stopTrain (ix 2 d.target)
    { state := p.1, result := .done, raised := p.2 }
  | .outputSet => s.actOutput (ix 8 d.target) fun _ => true
  | .outputClear => s.actOutput (ix 8 d.target) fun _ => false
  | .outputToggle => s.actOutput (ix 8 d.target) fun b => !b
  | .counterClear => done (s.clearCounter (ix 2 d.target))
  | .arm => done (s.armReaction (ix 24 d.target))
  | .disarm => done (s.disarmReaction (ix 24 d.target))
  | .finish => s.actFinish (ix 16 d.target) (lo16 d.parameter)
  | .holdPulse => s.actHoldPulse d.parameter
  | .notify => done (s.actNotify r (lo16 d.parameter))

/-! ## Firing (R140 to R142) -/

/-- Steps 2 and 3 of a firing on the entry's run state: it counts, and a limited budget is spent
(R140, R141). -/
def ReactionRun.fired (x : ReactionRun) (budget : Nat) (now : Stamp) (result : ActionResult) :
    ReactionRun :=
  let y := { x with
    fireCount := min (x.fireCount + 1) 65535, firedAt := now, lastResult := some result }
  if budget = 0 then y
  else { y with
    remaining := x.remaining - 1
    arm := if x.remaining - 1 = 0 then .spent else x.arm }

/-- Step 4 of a firing: a refused action overwrites the refusal record and sets REACT_LIMIT (R142). -/
def State.noteRefusal (s : State) (r : Fin 24) (result : ActionResult) : State :=
  match result with
  | .done => s
  | .refused reason =>
    { s with re := { s.re with
      refusal := some
        { reaction := r, action := (s.reaction r).action, reason := reason, stamp := s.now } } }.setFlag
      .reactLimit

/-- A firing of entry `r` (R140), but for its REACTION_FIRED, which the caller puts after what the
action raised. -/
def State.fire (s : State) (r : Fin 24) : Performed :=
  let p := s.perform r
  let t := p.state.setRun r ((p.state.run r).fired (s.reaction r).budget s.now p.result)
  { p with state := t.noteRefusal r p.result }

/-- What a firing puts into the follow-on list (R143, R144). -/
def Performed.follow (p : Performed) (r : Fin 24) : List Occurrence := p.raised ++ [.reactionFired r]

/-- A firing at depth 5 is suppressed (R145). -/
def State.suppress (s : State) (r : Fin 24) (o : Occurrence) (root : Root) : State :=
  { s with re := { s.re with
    chainLimit := some { reaction := r, reached := o, root := root, stamp := s.now } } }.setFlag
    .reactLimit

/-! ## Passes and chains (R138, R139, R143, R145) -/

/-- One turn of a pass in which entries fire, with the follow-on list so far. -/
def firingTurn (o : Occurrence) (p : State × List Occurrence) (r : Fin 24) : State × List Occurrence :=
  if p.1.reached r o then ((p.1.fire r).state, p.2 ++ (p.1.fire r).follow r) else p

/-- One turn of a pass at depth 5. -/
def suppressedTurn (root : Root) (o : Occurrence) (s : State) (r : Fin 24) : State :=
  if s.reached r o then s.suppress r o root else s

/-- The taking of an occurrence with `n` levels of firings left: the depth is `chainLimit - n`. The pass
visits the entries in ascending index, and then each member of the follow-on list is taken whole. -/
def taking : Nat → Root → Occurrence → State → State
  | 0, root, o, s => (List.finRange 24).foldl (suppressedTurn root o) s
  | n + 1, root, o, s =>
    let p := (List.finRange 24).foldl (firingTurn o) (s, [])
    p.2.foldl (fun t x => taking n root x t) p.1

/-- An occurrence handed to the engine at depth 0; in CONFIG it is discarded (R137). -/
def State.take (s : State) (o : Occurrence) : State :=
  if s.lc.state = .config then s else taking Config.chainLimit (.occurrence o) o s

/-- The rest of a forced firing's chain: its REACTION_FIRED, and what its action raised, are at depth 1
(R153). -/
def State.takeForced (s : State) (r : Fin 24) (follow : List Occurrence) : State :=
  follow.foldl (fun t x => taking (Config.chainLimit - 1) (.force r) x t) s

/-- Some entry is bound to the occurrence, armed or not: its taking may change the state. -/
def State.bound (s : State) (o : Occurrence) : Bool :=
  (List.finRange 24).any fun r => (s.reaction r).triggeredBy o

end Sys2Proof.Machine
end

