-- ==== Sys2Proof/Machine/Tasks.lean ====
section
/-! DEFINITION. Blocks that act at one instant: each block's events keep their order, and where the spec
leaves open which block goes next, a free value decides (R73, R90, R138, R166; log 4). -/

namespace Sys2Proof.Machine

/-- The answer of a command or an event. -/
abbrev Answered := Host.Outcome State Fault Refusal

/-- An event of one block, waiting for its turn among the events of one instant. -/
inductive Task where
  /-- an occurrence to be taken by the Reaction Engine (R138) -/
  | take (o : Occurrence)
  /-- the matching of a frame (R72) -/
  | matchFrame (x : RxFrame)
  /-- the opening of an obligation, and the end of the verdict record (R118) -/
  | openObligation
  /-- a DONE arrival (R93) -/
  | doneArrival (x : RxFrame)
  /-- a WITHDRAW arrival (R124) -/
  | withdrawArrival (x : RxFrame)
  /-- the arbiter's choice at a moment of R63 -/
  | choose
  /-- an edge at a counter (R166) -/
  | count (c : Fin 2) (k : Fin 8) (e : Edge)
  deriving DecidableEq, Repr

/-- A counter's edge field admits an edge (R166). -/
def CounterEdge.admits : CounterEdge → Edge → Bool
  | .none, _ => false
  | .rise, e => e == .rise
  | .fall, e => e == .fall
  | .both, _ => true

/-- The counting of an edge (R166). In CONFIG no counter counts (R165). -/
def State.countEdge (s : State) (c : Fin 2) (k : Fin 8) (e : Edge) : State × List Occurrence :=
  let x := s.counter c
  if s.lc.state != .config && x.source == k && x.edge.admits e then
    let y := { x with count := x.count + 1 }
    (s.setCounter c y, if y.count = y.compare then [.countMatch c] else [])
  else (s, [])

/-- A task carried out, with the occurrences that its block hands on. -/
def Task.run (s : State) : Task → State × List Occurrence
  | .take o => (s.take o, [])
  | .matchFrame x => s.matchFrame x
  | .openObligation => s.openObligation
  | .doneArrival x => s.doneArrival x
  | .withdrawArrival x => s.withdrawArrival x
  | .choose => (s.arbiter, [])
  | .count c k e => s.countEdge c k e

/-- A task may lead to a taking that some entry is bound to. Where none of the tasks left does, their
order makes no difference. -/
def Task.mayFire (s : State) : Task → Bool
  | .take o => s.bound o
  | .matchFrame x =>
    (s.matchingSet x.kind x.topic).any fun f => (s.filter f).triggers && s.bound (.cueMatch f)
  | .openObligation => s.openObligation.2.any s.bound
  | .doneArrival x => (s.doneArrival x).2.any s.bound
  | .withdrawArrival x => (s.withdrawArrival x).2.any s.bound
  | .choose => false
  | .count c k e => (s.countEdge c k e).2.any s.bound

/-- The order of the series is open: two of them have events left, and some event may lead to a firing. -/
def orderOpen (s : State) (series : List (List Task)) : Bool :=
  decide (2 ≤ series.length) && series.any fun q => q.any (Task.mayFire s)

/-- The series that goes next, and the state with the free value used up: the free value where the order
can matter (log 4), and the first series otherwise. -/
def nextSeries (s : State) (live : List (List Task)) : Nat × State :=
  if orderOpen s live then
    (Config.pick s.freeCount % live.length, { s with freeCount := s.freeCount + 1 })
  else (0, s)

/-- The series of an instant, each in its own order, taken one event at a time; `n` bounds the events. -/
def runTasks : Nat → List (List Task) → State → State
  | 0, _, s => s
  | n + 1, series, s =>
    let live := series.filter fun q => !q.isEmpty
    let next := nextSeries s live
    match live[next.1]? with
    | some (t :: rest) =>
      let p := t.run next.2
      runTasks n (live.set next.1 (p.2.map .take ++ rest)) p.1
    | _ => s

/-- More events than one instant ever holds. -/
def taskBound : Nat := 64

/-- The events of one instant. -/
def State.settleTasks (s : State) (series : List (List Task)) : State := runTasks taskBound series s

/-- Occurrences that may be taken in any order among each other. -/
def separately (l : List Occurrence) : List (List Task) := l.map fun o => [.take o]

/-- Occurrences of one series, in order. -/
def inSeries (l : List Occurrence) : List (List Task) := [l.map .take]

end Sys2Proof.Machine
end

