-- ==== Sys2Proof/Machine/Port.lean ====
section
/-! DEFINITION. The host port: transactions, replies, discards and device reset (R43, R193 to R198). The
bytes of a transaction are in Bytes.lean. -/

namespace Sys2Proof.Machine

/-! ## Device reset (R43, R193, R197) -/

/-- The host port at device reset: out of use while the RESET pin is held low; after it DESELECTED if HCS is
high, and otherwise waiting as in TRAILING until HCS rises (R193, R197). -/
def HostPort.atReset (held hcsLow : Bool) : HostPort :=
  let phase : PortPhase := if held then .inReset else if hcsLow then .trailing else .deselected
  { phase := phase
    hso := if phase = .trailing then some 0 else none
    portErrors := 0
    resetOrdered := false }

/-- Device reset. The rows that wait and the counter of the free value are the model's own and stay
(log 16). -/
def State.deviceReset (s : State) (held hcsLow : Bool) : State :=
  { State.reset with hp := HostPort.atReset held hcsLow, pending := s.pending, freeCount := s.freeCount }

/-! ## The select line (R193, R196) -/

/-- The transaction in this phase is discarded at a rise of HCS (R196): its command has not been taken and
a clock edge has come. -/
def PortPhase.discards : PortPhase → Bool → Bool
  | .command, clocked => clocked
  | .parameters _, _ => true
  | _, _ => false

/-- A rise of HCS (R193, R196), and the device reset that it lets take effect (R197). -/
def State.riseHcs (s : State) (clocked : Bool) : State :=
  let p := s.hp
  let t := { s with hp := { p with
    phase := .deselected
    hso := none
    portErrors := if p.phase.discards clocked then p.portErrors + 1 else p.portErrors } }
  if p.resetOrdered then t.deviceReset false false else t

/-- A fall of HCS (R193). -/
def State.fallHcs (s : State) : State :=
  if s.hp.phase = .deselected then { s with hp := { s.hp with phase := .command, hso := some 0 } } else s

/-! ## Commands (R193 to R195) -/

/-- The transaction in progress can go on to send these bytes. -/
def PortPhase.accepts (bytes : List Byte) : PortPhase → Bool
  | .deselected | .command => true
  | .parameters got => got.isPrefixOf bytes && decide (got.length < bytes.length)
  | .inReset | .reply _ | .trailing => false

/-- A command row stands for the completion of all its bytes up to its taking: where the transaction in
progress cannot become this command's, that one ends first and a new one begins (log 6). -/
def State.beginTransaction (s : State) (bytes : List Byte) : State :=
  if s.hp.phase.accepts bytes then s else (s.riseHcs true).fallHcs

/-- What the taking of a command gives: the state, the reply, and the events handed on to be taken. -/
structure Taken where
  state : State
  status : Status
  data : List Byte
  series : List (List Task)

/-- A command carried out. -/
def Taken.ok (s : State) (data : List Byte := []) (series : List (List Task) := []) : Taken :=
  { state := s, status := .ok, data := data, series := series }

/-- A command refused: the state it names is left as it was (R198). -/
def Taken.refuse (s : State) (st : Status) : Taken :=
  { state := s, status := st, data := [], series := [] }

/-- The reply composed and ready to be shifted out (R194, R195). -/
def State.reply (s : State) (st : Status) (data : List Byte) : State :=
  { s with hp := { s.hp with phase := .reply (replyBytes st data), hso := some 0 } }

/-- A host command: its transaction, its taking as one event with its reply, and then the takings of what
that event hands on (R138, R194; logs 14 and 19). While the RESET pin is held low no byte is taken (R197). -/
def State.hostCommand (s : State) (i : Instr) (body : State → Taken) : State :=
  if s.hp.phase = .inReset then s
  else
    let t := body (s.beginTransaction ((encodeCommand i).getD []))
    (t.state.reply t.status t.data).settleTasks t.series

/-! ## The port's own rows -/

/-- DEVICE_RESET (R43, R197). -/
def execDeviceReset (s : State) (held : Bool := false) (hcsLow : Bool := false) : Answered :=
  .next (s.deviceReset held hcsLow)

/-- HCS_FALL (R193). -/
def execHcsFall (s : State) : Answered := .next s.fallHcs

/-- HCS_RISE (R196); ignored while the RESET pin is held low (R197). -/
def execHcsRise (clocked : Bool) (s : State) : Answered :=
  .next (match s.hp.phase with
    | .inReset | .deselected => s
    | .command | .parameters _ | .reply _ | .trailing => s.riseHcs clocked)

/-- UNKNOWN_COMMAND: the reply UNKNOWN is composed and nothing is taken (R193, R195). A code of the
command table is no unknown command, and the row then changes nothing. -/
def execUnknownCommand (code : Byte) (s : State) : Answered :=
  .next (match paramCount code with
    | none => if s.hp.phase = .inReset then s else (s.beginTransaction [code]).reply .unknown []
    | some _ => s)

/-- RESET: the reply is OK, and the device reset takes effect at the rise of HCS (R197). -/
def execReset (s : State) : Answered :=
  .next (s.hostCommand .reset fun t =>
    .ok { t with hp := { t.hp with resetOrdered := true } })

end Sys2Proof.Machine
end

