-- ==== Sys2Proof/Machine/Slots.lean ====
section
/-! DEFINITION. The slot commands (R46 to R53). -/

namespace Sys2Proof.Machine

/-- A command that names one of `n` members: an index beyond them is refused with RANGE before anything
else is examined. -/
def indexed (n : Nat) [NeZero n] (b : Byte) (body : Fin n → State → Taken) (s : State) : Taken :=
  if b.toNat < n then body (ix n b) s else .refuse s .range

/-- The content that SLOT WRITE carries, if every field is in its range (R46). -/
def slotContent (priority kind : Byte) (topic deadline : BitVec 16) (length : Byte)
    (payload : Vector Byte 8) : Option Slot :=
  match SlotKind.ofCode kind with
  | none => none
  | some k =>
    let longest := match k with | .cue => 8 | .call => 7
    if 7 < priority.toNat ∨ 4095 < topic.toNat ∨ longest < length.toNat
        ∨ (k = .call ∧ deadline.toNat = 0) then none
    else
      some { Slot.reset with
        state := .loaded
        priority := BitVec.ofNat 3 priority.toNat
        kind := k
        topic := BitVec.ofNat 12 topic.toNat
        payload := payload.toList.take length.toNat
        deadline := match k with | .cue => 0 | .call => deadline.toNat }

/-- The taking of SLOT WRITE on slot `i`. -/
def takeSlotWrite (content : Option Slot) (i : Fin 8) (s : State) : Taken :=
  match (s.slot i).state with
  | .pending | .sending => .refuse s .busy
  | .empty | .loaded | .sent | .failed | .aborted =>
    match content with
    | none => .refuse s .range
    | some x => .ok (s.setSlot i x)

/-- SLOT WRITE (R46). -/
def execSlotWrite (slot priority kind : Byte) (topic deadline : BitVec 16) (length : Byte)
    (payload : Vector Byte 8) (s : State) : Answered :=
  .next (s.hostCommand (.slotWrite slot priority kind topic deadline length payload)
    (indexed 8 slot (takeSlotWrite (slotContent priority kind topic deadline length payload))))

/-- The taking of SLOT REQUEST on slot `i` (R47). -/
def takeSlotRequest (i : Fin 8) (s : State) : Taken :=
  match s.lc.state with
  | .config | .offline => .refuse s .state
  | .integrating | .active | .quiet =>
    match s.requestSlot i with
    | (_, .empty) => .refuse s .empty
    | (_, .full) => .refuse s .full
    | (t, .new) => .ok t (0 :: callFieldBytes (t.slot i).call)
    | (t, .alreadyPending) => .ok t (1 :: callFieldBytes (t.slot i).call)
    | (t, .rerun) => .ok t (2 :: callFieldBytes (t.slot i).call)

/-- SLOT REQUEST (R47). -/
def execSlotRequest (slot : Byte) (s : State) : Answered :=
  .next (s.hostCommand (.slotRequest slot) (indexed 8 slot takeSlotRequest))

/-- The taking of SLOT ABORT on slot `i` (R51); an abort in PENDING is an arrival at a done state (R57), and
a choice of the slot is made anew at once (R65). -/
def takeSlotAbort (i : Fin 8) (s : State) : Taken :=
  match (s.slot i).state with
  | .pending =>
    let p := s.arriveDone i .aborted []
    .ok p.1.arbiter [] (separately p.2)
  | .sending => .ok (s.setSlot i { s.slot i with abort := true, rerun := false })
  | .empty | .loaded | .sent | .failed | .aborted => .refuse s .state

/-- SLOT ABORT (R51). -/
def execSlotAbort (slot : Byte) (s : State) : Answered :=
  .next (s.hostCommand (.slotAbort slot) (indexed 8 slot takeSlotAbort))

/-- The taking of SLOT CLEAR on slot `i`. -/
def takeSlotClear (i : Fin 8) (s : State) : Taken :=
  match (s.slot i).state with
  | .pending | .sending => .refuse s .busy
  | .empty => .ok s
  | .loaded | .sent | .failed | .aborted => .ok (s.setSlot i Slot.reset)

/-- SLOT CLEAR (R52). -/
def execSlotClear (slot : Byte) (s : State) : Answered :=
  .next (s.hostCommand (.slotClear slot) (indexed 8 slot takeSlotClear))

/-- SLOT READ (R53). -/
def execSlotRead (slot : Byte) (s : State) : Answered :=
  .next (s.hostCommand (.slotRead slot) (indexed 8 slot fun i t => .ok t (t.slot i).bytes))

end Sys2Proof.Machine
end

