-- ==== Sys2Proof/Machine/Calls.lean ====
section
/-! DEFINITION. The call entry commands (R97, R102, R103). -/

namespace Sys2Proof.Machine

/-- The taking of CALL WITHDRAW on entry `k`: the deadline stops, and an expiry that waits is not taken
(R101). -/
def takeCallWithdraw (k : Fin 8) (s : State) : Taken :=
  match (s.call k).state with
  | .opened =>
    .ok (s.setCall k
      { s.call k with
        state := .withdrawing, withdrawPending := true, withdrawAttempts := 0, expiring := false }).arbiter
  | .free | .reserved | .withdrawing | .settled => .refuse s .state

/-- CALL WITHDRAW (R97). -/
def execCallWithdraw (entry : Byte) (s : State) : Answered :=
  .next (s.hostCommand (.callWithdraw entry) (indexed 8 entry takeCallWithdraw))

/-- The taking of CALL CLEAR on entry `k`. -/
def takeCallClear (k : Fin 8) (s : State) : Taken :=
  match (s.call k).state with
  | .settled => .ok (s.releaseCall k)
  | .free | .reserved | .opened | .withdrawing => .refuse s .state

/-- CALL CLEAR (R102). -/
def execCallClear (entry : Byte) (s : State) : Answered :=
  .next (s.hostCommand (.callClear entry) (indexed 8 entry takeCallClear))

/-- CALL READ (R103). -/
def execCallRead (entry : Byte) (s : State) : Answered :=
  .next (s.hostCommand (.callRead entry) (indexed 8 entry fun k t => .ok t (t.call k).bytes))

end Sys2Proof.Machine
end

