-- ==== Sys2Proof/Machine/Events.lean ====
section
/-! DEFINITION. The Event Unit's commands (R200, R202 to R204). -/

namespace Sys2Proof.Machine

/-- The data of FLAGS READ (R210). -/
def State.flagsBytes (s : State) : List Byte := be 2 s.eu.flags.toNat ++ be 2 s.eu.enables.toNat

/-- FLAGS READ: every flag but RX_READY is cleared (R202). -/
def execFlagsRead (s : State) : Answered :=
  .next (s.hostCommand .flagsRead fun t => .ok t.clearHeldFlags t.flagsBytes)

/-- INDEX READ (R203). -/
def execIndexRead (s : State) : Answered :=
  .next (s.hostCommand .indexRead fun t => .ok t [byte t.flagIndex])

/-- The taking of DETAIL READ: the set named is returned and emptied (R204). -/
def takeDetailRead (selector : Byte) (s : State) : Taken :=
  match selector.toNat with
  | 0 => .ok { s with eu := { s.eu with slotsDone := 0 } } [s.eu.slotsDone]
  | 1 => .ok { s with eu := { s.eu with callsSettled := 0 } } [s.eu.callsSettled]
  | 2 => .ok { s with eu := { s.eu with oblsOpened := 0 } } [s.eu.oblsOpened]
  | 3 => .ok { s with eu := { s.eu with oblsChanged := 0 } } [s.eu.oblsChanged]
  | 4 => .ok { s with re := { s.re with notices := 0 } } (be 3 s.re.notices.toNat)
  | 5 => .ok { s with au := { s.au with matchSet := 0 } } (be 2 s.au.matchSet.toNat)
  | _ => .refuse s .range

/-- DETAIL READ (R204). -/
def execDetailRead (selector : Byte) (s : State) : Answered :=
  .next (s.hostCommand (.detailRead selector) (takeDetailRead selector))

/-- The taking of ENABLE WRITE: a bit beyond the twelve refuses it (R200). -/
def takeEnableWrite (enables : BitVec 16) (s : State) : Taken :=
  if 0xFFF < enables.toNat then .refuse s .range
  else .ok { s with eu := { s.eu with enables := BitVec.ofNat 12 enables.toNat } } (be 2 enables.toNat)

/-- ENABLE WRITE (R200). -/
def execEnableWrite (enables : BitVec 16) (s : State) : Answered :=
  .next (s.hostCommand (.enableWrite enables) (takeEnableWrite enables))

end Sys2Proof.Machine
end

