-- ==== Sys2Proof/Machine/Reactions.lean ====
section
/-! DEFINITION. The reaction commands (R151 to R154). -/

namespace Sys2Proof.Machine

/-- A command that CONFIG refuses with STATE, once its index is in range. -/
def afterJoin (body : State → Taken) (s : State) : Taken :=
  if s.lc.state = .config then .refuse s .state else body s

/-- REACT ARM (R151). -/
def execReactArm (reaction : Byte) (s : State) : Answered :=
  .next (s.hostCommand (.reactArm reaction)
    (indexed 24 reaction fun r => afterJoin fun t =>
      .ok (t.armReaction r) [((t.armReaction r).run r).arm.code]))

/-- REACT DISARM (R152). -/
def execReactDisarm (reaction : Byte) (s : State) : Answered :=
  .next (s.hostCommand (.reactDisarm reaction)
    (indexed 24 reaction fun r => afterJoin fun t =>
      .ok (t.disarmReaction r) [((t.disarmReaction r).run r).arm.code]))

/-- The taking of REACT FORCE on entry `r`: its firing, and the rest of its chain, are one event (R153). -/
def takeReactForce (r : Fin 24) (s : State) : Taken :=
  match (s.run r).arm with
  | .armed =>
    let p := s.fire r
    .ok (p.state.takeForced r (p.follow r)) (resultBytes (some p.result))
  | .disarmed | .spent => .refuse s .state

/-- REACT FORCE (R153). -/
def execReactForce (reaction : Byte) (s : State) : Answered :=
  .next (s.hostCommand (.reactForce reaction) (indexed 24 reaction fun r => afterJoin (takeReactForce r)))

/-- The data of REACT READ (R211). -/
def State.reactionBytes (s : State) (r : Fin 24) : List Byte :=
  (s.reaction r).bytes ++ (s.run r).bytes ++ refusalBytes s.re.refusal ++ chainBytes s.re.chainLimit

/-- REACT READ (R154). -/
def execReactRead (reaction : Byte) (s : State) : Answered :=
  .next (s.hostCommand (.reactRead reaction) (indexed 24 reaction fun r t => .ok t (t.reactionBytes r)))

end Sys2Proof.Machine
end

