-- ==== Sys2Proof/Machine/Lines.lean ====
section
/-! DEFINITION. The commands of the Line Unit (R177, R179). -/

namespace Sys2Proof.Machine

/-- The output levels as a byte (R206). -/
def State.outputByte (s : State) : Byte := levelsByte fun k => (s.output k).level

/-- The settled input levels as a byte (R206). -/
def State.inputByte (s : State) : Byte := levelsByte fun k => (s.input k).level

/-- A named line is owned by a train (R177). -/
def State.namesTrainLine (s : State) (lines : Byte) : Bool :=
  (List.finRange 8).any fun k => lines.getLsbD k.val && (s.output k).owner != .level

/-- Every named line takes its level (R177). -/
def State.writeOutputs (s : State) (lines levels : Byte) : State :=
  (List.finRange 8).foldl
    (fun t k => if lines.getLsbD k.val then t.driveOutput k (levels.getLsbD k.val) else t) s

/-- The taking of OUTPUT WRITE. -/
def takeOutputWrite (lines levels : Byte) (s : State) : Taken :=
  if s.namesTrainLine lines then .refuse s .range
  else .ok (s.writeOutputs lines levels) [(s.writeOutputs lines levels).outputByte]

/-- OUTPUT WRITE (R177). -/
def execOutputWrite (lines levels : Byte) (s : State) : Answered :=
  .next (s.hostCommand (.outputWrite lines levels) (afterJoin (takeOutputWrite lines levels)))

/-- LINES READ (R179). -/
def execLinesRead (s : State) : Answered :=
  .next (s.hostCommand .linesRead fun t => .ok t [t.inputByte, t.outputByte])

end Sys2Proof.Machine
end

