-- ==== Sys2Proof/Machine/Image.lean ====
section
/-! DEFINITION. The configuration image: LOAD with its ranges (R183 to R187, R213), the checks of JOIN
(R188, R189) and the application of the image (R190). -/

namespace Sys2Proof.Machine

/-! ## LOAD (R183 to R187, R213) -/

/-- The number in two bytes, most significant first (R206). -/
def num2 (a b : Byte) : Nat := a.toNat * 256 + b.toNat

/-- The number in three bytes, most significant first (R206). -/
def num3 (a b c : Byte) : Nat := (a.toNat * 256 + b.toNat) * 256 + c.toNat

/-- The entries of each entry kind; none for an unknown kind (R182, R183, R206). -/
def entryCount (kind : Byte) : Option Nat :=
  match kind.toNat with
  | 0 => some 1 | 1 => some 4 | 2 => some 16 | 3 => some 8 | 4 => some 4 | 5 => some 2 | 6 => some 2
  | 7 => some 24 | _ => none

/-- STATION fields (R184). -/
def loadStation (f : Vector Byte 11) : Option StationEntry :=
  match BusRate.ofCode f[1] with
  | some rate =>
    if 1 ≤ f[0].toNat ∧ f[0].toNat ≤ 63 ∧ f[2].toNat ≤ 7 ∧ f[3].toNat ≤ 15 ∧ 32 ≤ num2 f[4] f[5] then
      some
        { number := BitVec.ofNat 6 f[0].toNat
          rate := rate
          protocolPriority := BitVec.ofNat 3 f[2].toNat
          retryLimit := f[3].toNat
          holdLength := num2 f[4] f[5] }
    else none
  | none => none

/-- MASK fields (R185). -/
def loadMask (f : Vector Byte 11) : Option (BitVec 12) :=
  if num2 f[0] f[1] ≤ 0xFFF then some (BitVec.ofNat 12 (num2 f[0] f[1])) else none

/-- FILTER fields (R185). -/
def loadFilter (f : Vector Byte 11) : Option Filter :=
  match boolOfCode f[0] with
  | some enabled =>
    if num2 f[1] f[2] ≤ 4095 ∧ f[4].toNat ≤ 15 ∧ f[5].toNat ≤ 7 then
      some
        { enabled := enabled
          topic := BitVec.ofNat 12 (num2 f[1] f[2])
          maskIndex := f[3]
          kinds := BitVec.ofNat 4 f[4].toNat
          roles := BitVec.ofNat 3 f[5].toNat }
    else none
  | none => none

/-- LINE fields (R186). -/
def loadLine (f : Vector Byte 11) : Option LineEntry :=
  match boolOfCode f[1], Owner.ofCode f[2] with
  | some rest, some owner => some { settleTime := f[0].toNat, rest := rest, owner := owner }
  | _, _ => none

/-- TIMER fields (R186). -/
def loadTimer (f : Vector Byte 11) : Option TimerEntry :=
  match TimerMode.ofCode f[3] with
  | some mode => if 1 ≤ num3 f[0] f[1] f[2] then some { limit := num3 f[0] f[1] f[2], mode := mode } else none
  | none => none

/-- COUNTER fields (R186). -/
def loadCounter (f : Vector Byte 11) : Option CounterEntry :=
  match CounterEdge.ofCode f[1] with
  | some edge =>
    some { source := f[0], edge := edge, compare := BitVec.ofNat 24 (num3 f[2] f[3] f[4]) }
  | none => none

/-- TRAIN fields (R186). -/
def loadTrain (f : Vector Byte 11) : Option TrainEntry :=
  if 2 ≤ num2 f[1] f[2] ∧ 1 ≤ num2 f[3] f[4] ∧ num2 f[3] f[4] ≤ 65534 then
    some
      { line := f[0]
        period := num2 f[1] f[2]
        width := num2 f[3] f[4]
        count := BitVec.ofNat 16 (num2 f[5] f[6]) }
  else none

/-- REACTION fields (R187). -/
def loadReaction (f : Vector Byte 11) : Option ReactionDef :=
  match TriggerKind.ofCode f[0], GateKind.ofCode f[3], ActionKind.ofCode f[5], boolOfCode f[10] with
  | some trigger, some gate, some action, some armed =>
    some
      { trigger := trigger
        selector := f[1]
        qualifier := f[2]
        gate := gate
        gateLine := f[4]
        action := action
        target := f[6]
        parameter := f[7] ++ f[8]
        budget := f[9].toNat
        initialArmed := armed }
  | _, _, _, _ => none

/-- The entry of a kind and index replaced by the fields carried; none where a field is outside its range
(R183). The index has been checked. -/
def State.loadEntry (s : State) (kind index : Byte) (f : Vector Byte 11) : Option State :=
  match kind.toNat with
  | 0 => (loadStation f).map fun x => { s with image := { s.image with station := x } }
  | 1 => (loadMask f).map fun x => { s with au := { s.au with masks := s.au.masks.set (ix 4 index) x } }
  | 2 => (loadFilter f).map fun x =>
    { s with au := { s.au with filters := s.au.filters.set (ix 16 index) x } }
  | 3 => (loadLine f).map fun x =>
    { s with image := { s.image with lines := s.image.lines.set (ix 8 index) x } }
  | 4 => (loadTimer f).map fun x =>
    { s with image := { s.image with timers := s.image.timers.set (ix 4 index) x } }
  | 5 => (loadCounter f).map fun x =>
    { s with image := { s.image with counters := s.image.counters.set (ix 2 index) x } }
  | 6 => (loadTrain f).map fun x =>
    { s with image := { s.image with trains := s.image.trains.set (ix 2 index) x } }
  | 7 => (loadReaction f).map fun x => { s with re := { s.re with defs := s.re.defs.set (ix 24 index) x } }
  | _ => none

/-- The taking of LOAD, judged in the order of R183. -/
def takeLoad (kind index : Byte) (f : Vector Byte 11) (s : State) : Taken :=
  if s.lc.state ≠ .config then .refuse s .state
  else
    match entryCount kind with
    | none => .refuse s .range
    | some n =>
      if n ≤ index.toNat then .refuse s .range
      else
        match s.loadEntry kind index f with
        | none => .refuse s .range
        | some t => .ok t

/-- LOAD (R183). -/
def execLoad (kind index : Byte) (fields : Vector Byte 11) (s : State) : Answered :=
  .next (s.hostCommand (.load kind index fields) (takeLoad kind index fields))

/-! ## The checks of JOIN (R188, R189) -/

/-- A failing check: entry kind, index and reason, coded as R206 gives. -/
structure Failure where
  kind : Byte
  index : Nat
  reason : Byte
  deriving DecidableEq, Repr

/-- A check that fails when its condition holds. -/
def failIf (fails : Bool) (kind : Byte) (index : Nat) (reason : Byte) : List Failure :=
  if fails then [{ kind := kind, index := index, reason := reason }] else []

/-- Step 1. -/
def State.checkStation (s : State) : List Failure := failIf (s.image.station.number == 0) 0 0 1

/-- Step 3, filter `f`. -/
def State.checkFilter (s : State) (f : Fin 16) : List Failure :=
  failIf (decide (3 < (s.filter f).maskIndex.toNat)) 2 f.val 2
    ++ failIf ((s.filter f).roles.getLsbD 2 && !(s.filter f).kinds.getLsbD 1) 2 f.val 3

/-- Step 4, line `k`: a train that owns it names it. -/
def State.checkLine (s : State) (k : Fin 8) : List Failure :=
  match s.image.lines[k].owner with
  | .level => []
  | .train g => failIf (s.image.trains[g].line.toNat != k.val) 3 k.val 4

/-- Step 4, train `g`: its line exists and is owned by it. -/
def State.checkTrainLine (s : State) (g : Fin 2) : List Failure :=
  failIf (decide (7 < s.image.trains[g].line.toNat)) 6 g.val 5
    ++ failIf (s.image.lines[ix 8 s.image.trains[g].line].owner != .train g) 6 g.val 4

/-- Step 6, counter `c`. -/
def State.checkCounter (s : State) (c : Fin 2) : List Failure :=
  failIf (decide (7 < s.image.counters[c].source.toNat)) 5 c.val 5

/-- Step 7, train `g`. -/
def State.checkTrainWidth (s : State) (g : Fin 2) : List Failure :=
  failIf (decide (s.image.trains[g].period ≤ s.image.trains[g].width)) 6 g.val 6

/-- The selectors of a trigger, and whether it takes a qualifier (R189); none where the selector is not
checked. -/
def TriggerKind.selectors : TriggerKind → Option Nat
  | .cueMatch | .obligationOpened | .obligationWithdrawn => some 16
  | .inputEdge | .slotDone | .callSettled => some 8
  | .timerExpire => some 4
  | .countMatch | .trainPulse | .trainDone => some 2
  | .reactionFired => some 24
  | .none | .holdBegin | .holdPersists | .holdEnd => Option.none

def TriggerKind.takesQualifier : TriggerKind → Bool
  | .inputEdge | .trainDone | .slotDone | .callSettled => true
  | _ => false

/-- The targets of an action; none where the target is not checked (R189). -/
def ActionKind.targets : ActionKind → Option Nat
  | .send | .outputSet | .outputClear | .outputToggle => some 8
  | .timerStart | .timerStop => some 4
  | .trainStart | .trainStop | .counterClear => some 2
  | .arm | .disarm => some 24
  | .finish => some 16
  | .holdPulse | .notify => none

/-- A naming field is outside the range that its kind gives. -/
def outside (limit : Option Nat) (b : Byte) : Bool :=
  match limit with
  | none => false
  | some n => decide (n ≤ b.toNat)

/-- Step 8, reaction `r`. -/
def State.checkReaction (s : State) (r : Fin 24) : List Failure :=
  let d := s.reaction r
  failIf (outside d.trigger.selectors d.selector) 7 r.val 7
    ++ failIf (d.trigger.takesQualifier && decide (2 < d.qualifier.toNat)) 7 r.val 8
    ++ failIf (d.gate != .none && decide (7 < d.gateLine.toNat)) 7 r.val 9
    ++ failIf (outside d.action.targets d.target) 7 r.val 10
    ++ failIf (d.action == .finish && !(s.filter (ix 16 d.target)).roles.getLsbD 2) 7 r.val 11

/-- Every failing check, in the order of R188; steps 2 and 5 have none. -/
def State.failures (s : State) : List Failure :=
  s.checkStation
    ++ ((List.finRange 16).map s.checkFilter).flatten
    ++ ((List.finRange 8).map s.checkLine).flatten
    ++ ((List.finRange 2).map s.checkTrainLine).flatten
    ++ ((List.finRange 2).map s.checkCounter).flatten
    ++ ((List.finRange 2).map s.checkTrainWidth).flatten
    ++ ((List.finRange 24).map s.checkReaction).flatten

/-! ## The application of the image (R156, R190) -/

/-- The Line Unit's part of R190. -/
def State.applyLines (s : State) : State :=
  { s with lu :=
    { inputs := Vector.ofFn fun k => { s.input k with settleTime := s.image.lines[k].settleTime }
      outputs := Vector.ofFn fun k =>
        { rest := s.image.lines[k].rest
          owner := s.image.lines[k].owner
          level := s.image.lines[k].rest } } }

/-- The Timing Unit's part of R190. -/
def State.applyTiming (s : State) : State :=
  { s with tu := { s.tu with
    timers := Vector.ofFn fun t =>
      { Timer.reset with limit := s.image.timers[t].limit, mode := s.image.timers[t].mode }
    counters := Vector.ofFn fun c =>
      { source := ix 8 s.image.counters[c].source
        edge := s.image.counters[c].edge
        compare := s.image.counters[c].compare
        count := 0 }
    trains := Vector.ofFn fun g =>
      { Train.reset with
        line := ix 8 s.image.trains[g].line
        period := s.image.trains[g].period
        width := s.image.trains[g].width
        count := s.image.trains[g].count } } }

/-- An entry's run state at JOIN from CONFIG (R156). -/
def ReactionDef.initialRun (d : ReactionDef) : ReactionRun :=
  { ReactionRun.reset with arm := if d.initialArmed then .armed else .disarmed, remaining := d.budget }

/-- The Reaction Engine's part of R190 (R156). -/
def State.applyReactions (s : State) : State :=
  { s with re := { s.re with
    runs := Vector.ofFn fun r => (s.reaction r).initialRun
    refusal := none
    chainLimit := none
    notices := 0 } }

/-- JOIN from CONFIG applies the image (R190), but for the Link Controller. -/
def State.applyImage (s : State) : State := s.applyLines.applyTiming.applyReactions

end Sys2Proof.Machine
end

