-- ==== Sys2Proof/Machine/Link.lean ====
section
/-! DEFINITION. The Link Controller's commands: JOIN, LEAVE, HOLD ASSERT, HOLD RELEASE, LINK READ and
STATS READ (R25, R27, R34, R36, R42, R205), with what LEAVE does at the owners (R61, R109, R129). -/

namespace Sys2Proof.Machine

/-! ## JOIN (R25, R188 to R191) -/

/-- The Link Controller at a JOIN that is taken (R25). -/
def LinkController.joined (lc : LinkController) (e : StationEntry) : LinkController :=
  { lc with
    station := e.number
    rate := e.rate
    protocolPriority := e.protocolPriority
    retryLimit := e.retryLimit
    holdLength := e.holdLength
    state := .integrating
    phase := .await
    integration := 0
    dominantRun := 0
    persistence := 0
    holdEnd := 0
    held := false
    failures := 0
    holdFlag := false
    pulse := 0
    inFlight := none }

/-- The taking of JOIN. -/
def takeJoin (s : State) : Taken :=
  match s.lc.state with
  | .config =>
    match s.failures with
    | x :: _ =>
      { Taken.refuse s .configError with data := [x.kind, byte x.index, x.reason] }
    | [] => .ok { s.applyImage with lc := s.lc.joined s.image.station }
  | .offline => .ok { s with lc := s.lc.joined s.image.station }
  | .integrating | .active | .quiet => .refuse s .state

/-- JOIN (R25). -/
def execJoin (s : State) : Answered := .next (s.hostCommand .join takeJoin)

/-! ## LEAVE (R27, R61, R109, R129) -/

/-- The Link Controller at LEAVE (R27, R23). -/
def LinkController.left (lc : LinkController) : LinkController :=
  { lc with
    state := .offline
    phase := .out
    held := false
    holdInAwait := false
    holdFlag := false
    pulse := 0
    failures := 0
    choice := none
    inFlight := none
    frame := none
    dominantRun := 0
    persistence := 0
    holdEnd := 0
    quiet := none
    due := [] }

/-- One slot at LEAVE (R61). -/
def leaveSlot (p : State × List Occurrence) (i : Fin 8) : State × List Occurrence :=
  let sl := p.1.slot i
  match sl.state with
  | .pending | .sending =>
    let q := (p.1.setSlot i { sl with rerun := false, abort := false }).arriveDone i .aborted []
    (q.1, p.2 ++ q.2)
  | .empty | .loaded | .sent | .failed | .aborted => p

/-- One call entry at LEAVE (R109). -/
def leaveCall (p : State × List Occurrence) (k : Fin 8) : State × List Occurrence :=
  match (p.1.call k).state with
  | .opened | .withdrawing =>
    (p.1.settleCall k .abandoned, p.2 ++ [.callSettled k .abandoned])
  | .free | .reserved | .settled => p

/-- One obligation entry at LEAVE (R129). -/
def leaveObl (s : State) (o : Fin 8) : State :=
  match (s.obl o).state with
  | .free => s
  | _ => (s.setObl o Obligation.free).noteOblChanged o

/-- The taking of LEAVE: the Link Controller, then the slots, the calls and the obligations; the SLOT_DONE
and the CALL_SETTLED occurrences are two series (R138). -/
def takeLeave (s : State) : Taken :=
  match s.lc.state with
  | .config | .offline => .refuse s .state
  | .integrating | .active | .quiet =>
    let slots := (List.finRange 8).foldl leaveSlot (s.setLc s.lc.left, [])
    let calls := (List.finRange 8).foldl leaveCall (slots.1, [])
    let t := ((List.finRange 8).foldl leaveObl calls.1).setVerdict none
    .ok t [] (inSeries slots.2 ++ inSeries calls.2)

/-- LEAVE (R27). -/
def execLeave (s : State) : Answered := .next (s.hostCommand .leave takeLeave)

/-! ## The station's own hold (R34, R36) -/

/-- The taking of HOLD ASSERT. -/
def takeHoldAssert (s : State) : Taken :=
  if s.lc.state = .active then .ok s.setHoldFlag else .refuse s .state

/-- HOLD ASSERT (R34). -/
def execHoldAssert (s : State) : Answered := .next (s.hostCommand .holdAssert takeHoldAssert)

/-- HOLD RELEASE (R36). -/
def execHoldRelease (s : State) : Answered :=
  .next (s.hostCommand .holdRelease fun t => .ok t.clearOwnHold.arbiter)

/-! ## Reads (R42, R205) -/

/-- The data of LINK READ (R210). -/
def State.linkBytes (s : State) : List Byte :=
  [s.lc.state.code, boolByte s.lc.held, boolByte s.lc.holdFlag] ++ be 2 s.lc.pulse
    ++ [byte s.lc.failures, byte s.rq.length, s.hp.portErrors] ++ be 4 s.now.toNat

/-- LINK READ (R205). -/
def execLinkRead (s : State) : Answered := .next (s.hostCommand .linkRead fun t => .ok t t.linkBytes)

/-- The data of STATS READ, in the order of R41 (R210). -/
def State.statsBytes (s : State) : List Byte := s.lc.stats.toList.map byte

/-- STATS READ: the counters are returned and set to 0 (R42). -/
def execStatsRead (s : State) : Answered :=
  .next (s.hostCommand .statsRead fun t => .ok t.clearStats t.statsBytes)

end Sys2Proof.Machine
end

