-- ==== Sys2Proof/Machine/Obligations.lean ====
section
/-! DEFINITION. The obligation entry commands (R120, R125, R126). -/

namespace Sys2Proof.Machine

/-- The DONE of entry `o` is in flight (R122). -/
def State.doneInFlight (s : State) (o : Fin 8) : Bool := s.lc.inFlight == some (.obligation o)

/-- The taking of OBL FINISH on entry `o`. -/
def takeOblFinish (status : Byte) (bytes : List Byte) (o : Fin 8) (s : State) : Taken :=
  match (s.obl o).state with
  | .opened | .failed => .ok (s.finishObl o status bytes)
  | .free | .reserved | .finishing | .withdrawn => .refuse s .state

/-- OBL FINISH: an index above 7 or a count above 6 is refused first (R120). -/
def execOblFinish (entry status count : Byte) (bytes : Vector Byte 6) (s : State) : Answered :=
  .next (s.hostCommand (.oblFinish entry status count bytes) fun t =>
    if 6 < count.toNat then .refuse t .range
    else indexed 8 entry (takeOblFinish status (bytes.toList.take count.toNat)) t)

/-- The taking of OBL DISCARD on entry `o`. -/
def takeOblDiscard (o : Fin 8) (s : State) : Taken :=
  match (s.obl o).state with
  | .finishing => if s.doneInFlight o then .refuse s .busy else .ok (s.freeObl o)
  | .opened | .failed | .withdrawn => .ok (s.freeObl o)
  | .free | .reserved => .refuse s .state

/-- OBL DISCARD (R125). -/
def execOblDiscard (entry : Byte) (s : State) : Answered :=
  .next (s.hostCommand (.oblDiscard entry) (indexed 8 entry takeOblDiscard))

/-- OBL READ (R126). -/
def execOblRead (entry : Byte) (s : State) : Answered :=
  .next (s.hostCommand (.oblRead entry)
    (indexed 8 entry fun o t => .ok t ((t.obl o).bytes (t.doneInFlight o))))

end Sys2Proof.Machine
end

