-- ==== Sys2Proof/Machine/Receive.lean ====
section
/-! DEFINITION. The Receive Queue's commands (R79, R80). -/

namespace Sys2Proof.Machine

/-- The taking of RX READ. -/
def takeRxRead (s : State) : Taken :=
  match s.rq with
  | [] => .refuse s .empty
  | r :: _ => .ok s (byte s.rq.length :: r.bytes)

/-- RX READ (R79). -/
def execRxRead (s : State) : Answered := .next (s.hostCommand .rxRead takeRxRead)

/-- The taking of RX RELEASE: RX_READY follows the queue (R81). -/
def takeRxRelease (s : State) : Taken :=
  match s.rq with
  | [] => .refuse s .empty
  | _ :: rest =>
    let t := { s with rq := rest }
    .ok (if rest.isEmpty then t.clearFlag .rxReady else t) [byte rest.length]

/-- RX RELEASE (R80). -/
def execRxRelease (s : State) : Answered := .next (s.hostCommand .rxRelease takeRxRelease)

end Sys2Proof.Machine
end

