-- ==== Sys2Proof/Machine/Timing.lean ====
section
/-! DEFINITION. The commands of the Timing Unit (R161 to R173). -/

namespace Sys2Proof.Machine

/-! ## Timers -/

/-- State and count of a timer, in the replies of TIMER START and TIMER STOP (R210). -/
def Timer.stateBytes (t : Timer) : List Byte := boolByte t.running :: be 3 t.count

/-- TIMER START (R161). -/
def execTimerStart (timer : Byte) (s : State) : Answered :=
  .next (s.hostCommand (.timerStart timer)
    (indexed 4 timer fun t => afterJoin fun u =>
      .ok (u.startTimer t) ((u.startTimer t).timer t).stateBytes))

/-- TIMER STOP (R161). -/
def execTimerStop (timer : Byte) (s : State) : Answered :=
  .next (s.hostCommand (.timerStop timer)
    (indexed 4 timer fun t => afterJoin fun u =>
      .ok (u.stopTimer t) ((u.stopTimer t).timer t).stateBytes))

/-- A change of limit expires a RUNNING timer whose count is at or above it (R162). -/
def Timer.expiresBy (t : Timer) (limit : Nat) : Bool := t.running && decide (limit ≤ t.count)

/-- The limit replaced on a timer that does not expire by it. An expiry that waits stays if the time step
that waits also reaches the new limit, and is dropped, the step counted, if it does not (R163; log 15). -/
def Timer.withLimit (t : Timer) (limit : Nat) : Timer :=
  if t.expiring = true ∧ t.count + 1 < limit then
    { t with limit := limit, count := t.count + 1, expiring := false }
  else { t with limit := limit }

/-- The taking of TIMER LIMIT on timer `t` (R162). -/
def takeTimerLimit (limit : Nat) (t : Fin 4) (s : State) : Taken :=
  if (s.timer t).expiresBy limit then
    .ok (s.setTimer t { (s.timer t).expired with limit := limit }) [] (separately [.timerExpire t])
  else .ok (s.setTimer t ((s.timer t).withLimit limit))

/-- TIMER LIMIT (R162). -/
def execTimerLimit (timer : Byte) (limit : BitVec 24) (s : State) : Answered :=
  .next (s.hostCommand (.timerLimit timer limit) fun u =>
    if limit = 0 then .refuse u .range
    else indexed 4 timer (fun t => afterJoin (takeTimerLimit limit.toNat t)) u)

/-- TIMER READ (R164). -/
def execTimerRead (timer : Byte) (s : State) : Answered :=
  .next (s.hostCommand (.timerRead timer) (indexed 4 timer fun t u => .ok u (u.timer t).bytes))

/-! ## Edge counters -/

/-- COUNTER READ (R167). -/
def execCounterRead (counter : Byte) (s : State) : Answered :=
  .next (s.hostCommand (.counterRead counter) (indexed 2 counter fun c u => .ok u (u.counter c).bytes))

/-- COUNTER CLEAR (R167). -/
def execCounterClear (counter : Byte) (s : State) : Answered :=
  .next (s.hostCommand (.counterClear counter)
    (indexed 2 counter fun c => afterJoin fun u => .ok (u.clearCounter c)))

/-! ## Pulse trains -/

/-- State and pulse number of a train, in the replies of TRAIN START and TRAIN STOP (R210). -/
def Train.stateBytes (t : Train) : List Byte := boolByte t.running :: be 2 t.pulses.toNat

/-- TRAIN START (R169, R172). -/
def execTrainStart (train : Byte) (s : State) : Answered :=
  .next (s.hostCommand (.trainStart train)
    (indexed 2 train fun g => afterJoin fun u =>
      .ok (u.startTrain g) ((u.startTrain g).train g).stateBytes))

/-- TRAIN STOP: a stop in REST raises TRAIN_DONE as an event of the Timing Unit (R171). -/
def execTrainStop (train : Byte) (s : State) : Answered :=
  .next (s.hostCommand (.trainStop train)
    (indexed 2 train fun g => afterJoin fun u =>
      .ok (u.stopTrain g).1 ((u.stopTrain g).1.train g).stateBytes (separately (u.stopTrain g).2)))

/-- TRAIN READ (R173). -/
def execTrainRead (train : Byte) (s : State) : Answered :=
  .next (s.hostCommand (.trainRead train) (indexed 2 train fun g u => .ok u (u.train g).bytes))

end Sys2Proof.Machine
end

