-- ==== Sys2Proof/Machine/Bytes.lean ====
section
/-! DEFINITION. The bytes of a transaction: what each completed byte does in each port phase, and the taking
of the command that the bytes received name (R193 to R195, R209). -/

namespace Sys2Proof.Machine

/-- A host command taken: the meaning of its own row (R194, R209). A row that no bytes name is none. -/
def execHostCommand (c : Instr) (s : State) : Answered :=
  match c with
  | .join => execJoin s
  | .leave => execLeave s
  | .holdAssert => execHoldAssert s
  | .holdRelease => execHoldRelease s
  | .linkRead => execLinkRead s
  | .statsRead => execStatsRead s
  | .reset => execReset s
  | .load kind index fields => execLoad kind index fields s
  | .slotWrite slot priority kind topic deadline length payload =>
    execSlotWrite slot priority kind topic deadline length payload s
  | .slotRequest slot => execSlotRequest slot s
  | .slotAbort slot => execSlotAbort slot s
  | .slotClear slot => execSlotClear slot s
  | .slotRead slot => execSlotRead slot s
  | .rxRead => execRxRead s
  | .rxRelease => execRxRelease s
  | .callWithdraw entry => execCallWithdraw entry s
  | .callClear entry => execCallClear entry s
  | .callRead entry => execCallRead entry s
  | .oblFinish entry status count bytes => execOblFinish entry status count bytes s
  | .oblDiscard entry => execOblDiscard entry s
  | .oblRead entry => execOblRead entry s
  | .reactArm reaction => execReactArm reaction s
  | .reactDisarm reaction => execReactDisarm reaction s
  | .reactForce reaction => execReactForce reaction s
  | .reactRead reaction => execReactRead reaction s
  | .timerStart timer => execTimerStart timer s
  | .timerStop timer => execTimerStop timer s
  | .timerLimit timer limit => execTimerLimit timer limit s
  | .timerRead timer => execTimerRead timer s
  | .counterRead counter => execCounterRead counter s
  | .counterClear counter => execCounterClear counter s
  | .trainStart train => execTrainStart train s
  | .trainStop train => execTrainStop train s
  | .trainRead train => execTrainRead train s
  | .outputWrite lines levels => execOutputWrite lines levels s
  | .linesRead => execLinesRead s
  | .flagsRead => execFlagsRead s
  | .indexRead => execIndexRead s
  | .detailRead selector => execDetailRead selector s
  | .enableWrite enables => execEnableWrite enables s
  | .deviceReset _ _ | .hcsFall | .hcsRise _ | .unknownCommand _ | .peerSof | .sofDriven | .eodPoint
  | .placed | .crowded | .frameEnd | .receiveError | .attemptSettled | .recoveryGapCompletes
  | .integrationCompletes | .quietPeriodEnds | .holdDetected | .persistenceMark | .holdEnded
  | .pulseEnds | .timeStep _ | .deadlineExpiry _ | .timerExpire _ | .leadingEdge _
  | .trailingEdge _ | .inputEdge _ | .samplePoint _ | .byteCompletes _ => .next s

/-- The bytes received name a command whole: it is taken (R194). Bytes that name none, which the port does not
gather, take nothing. -/
def takeBytes (bytes : List Byte) (s : State) : Answered :=
  match decodeCommand bytes with
  | some c => execHostCommand c s
  | none => .next s

/-- The command byte completes (R193): a command with parameters waits for them, one without is taken, and a
code that is not in the command table is answered UNKNOWN. -/
def commandByte (code : Byte) (s : State) : Answered :=
  match paramCount code with
  | some (_ + 1) => .next { s with hp := { s.hp with phase := .parameters [code], hso := some 0 } }
  | some 0 => takeBytes [code] s
  | none => execUnknownCommand code s

/-- A parameter byte completes behind those received (R193): the last one takes the command. -/
def parameterByte (got : List Byte) (byte : Byte) (s : State) : Answered :=
  match got.head?.bind paramCount with
  | some n =>
    if got.length < n then .next { s with hp := { s.hp with phase := .parameters (got ++ [byte]) } }
    else takeBytes (got ++ [byte]) s
  | none => .next s

/-- A byte completes in REPLY (R193, R195): a reply byte has been shifted out. -/
def replyByte (left : List Byte) (s : State) : State :=
  { s with hp := match left with
    | b :: rest => { s.hp with hso := some b, phase := if rest.isEmpty then .trailing else .reply rest }
    | [] => { s.hp with phase := .trailing } }

/-- BYTE_COMPLETES (R193, R195). No byte is taken while DESELECTED or with the RESET pin held low (R197), and
in TRAILING the part shifts out 0 and ignores the byte. -/
def execByteCompletes (byte : Byte) (s : State) : Answered :=
  match s.hp.phase with
  | .inReset | .deselected => .next s
  | .command => commandByte byte s
  | .parameters got => parameterByte got byte s
  | .reply left => .next (replyByte left s)
  | .trailing => .next { s with hp := { s.hp with hso := some 0 } }

end Sys2Proof.Machine
end

