-- ==== Sys2Proof/Machine/Wire.lean ====
section
/-! DEFINITION. The frame in progress, bit by bit: what the station sends, and what each bit read makes of
it (R3 to R21, R207). -/

namespace Sys2Proof.Machine

/-- The opposite level. -/
def opposite : Level → Level
  | .dominant => .recessive
  | .recessive => .dominant

/-- Equal bits that call for a stuff bit (R3). -/
def stuffAt : Nat := 5

/-- A stuff bit is due (R3). -/
def Frame.stuffDue (f : Frame) : Bool := f.run == stuffAt

/-- A frame as a station enters it, by the SOF it drives or reads (R12). -/
def Frame.start (role : Role) (elem : Elem) (toSend : List Bool) : Frame where
  role := role
  lost := false
  elem := elem
  count := 0
  run := 0
  last := .dominant
  bits := []
  check := []
  crc := crcPreset
  toSend := toSend
  responses := []
  partialByte := []
  responder := .absent
  ownByte := 0
  stopped := false
  txCode := none
  rxCode := none

/-- The bit of the own response byte that falls now (R15). -/
def Frame.responseBit (f : Frame) : Level := Level.ofBit (f.ownByte.getLsbD (7 - f.count))

/-- What the transmitter sends: SOF, then header, data and check with their stuff bits (R3, R12). -/
def Frame.sends (f : Frame) : Level :=
  match f.elem with
  | .sof => .dominant
  | .header | .data | .check =>
    if f.stuffDue then opposite f.last else Level.ofBit (f.toSend.headD true)
  | .eod => if f.stuffDue then opposite f.last else .recessive
  | .start | .response | .eof => .recessive

/-- What a responder sends: start bits and its byte while it competes, and the stuff bits of its own
sending (R3, R15). -/
def Frame.answers (f : Frame) : Level :=
  match f.responder with
  | .competing =>
    match f.elem with
    | .start => .dominant
    | .response => if f.stuffDue then opposite f.last else f.responseBit
    | _ => .recessive
  | .sent => opposite f.last
  | .absent | .beaten | .placed => .recessive

/-- The level that the station drives for its part in the frame in the next bit time; released once it has
stopped (R20). -/
def Frame.drive (f : Frame) : Level :=
  if f.stopped then .recessive
  else
    match f.role with
    | .transmitter => f.sends
    | .receiver => f.answers

/-- An error detected: the station stops driving and interpreting, and the code is the role's (R20). -/
def Frame.fail (f : Frame) (tx : TxCode) (rx : RxCode) : Frame :=
  match f.role with
  | .transmitter => { f with stopped := true, txCode := some tx }
  | .receiver => { f with stopped := true, rxCode := some rx }

/-- The run count after a bit of a stuffed sequence (R3). -/
def Frame.counted (f : Frame) (read : Level) : Frame :=
  { f with run := if f.run ≠ 0 ∧ f.last = read then f.run + 1 else 1, last := read }

/-- The next element, with its bit count at 0. -/
def Frame.enter (f : Frame) (e : Elem) : Frame := { f with elem := e, count := 0 }

/-- The station's part when the window is over: an unplaced responder is crowded (R17, R116). -/
def Frame.windowClosed (f : Frame) : Frame × List LineEvent :=
  match f.responder with
  | .competing | .beaten => ({ f with responder := .absent, run := 0 }, [.crowded])
  | .absent | .sent | .placed => ({ f with run := 0 }, [])

/-- The stuff bit after a position is over: its sender is placed, and an unplaced one competes again
(R15, R16). -/
def Frame.positionOver (f : Frame) : Frame × List LineEvent :=
  match f.responder with
  | .sent => ({ f with responder := .placed }, [.placed])
  | .beaten => ({ f with responder := .competing }, [])
  | .absent | .competing | .placed => (f, [])

/-- The end of position 15 (R17). -/
def Frame.lastPositionOver (f : Frame) : Frame × List LineEvent :=
  let p := f.positionOver
  let q := p.1.windowClosed
  (q.1, p.2 ++ q.2)

/-- A stuff bit read right (R3, R17). -/
def Frame.stuffed (f : Frame) (read : Level) : Frame × List LineEvent :=
  let g := { f with run := 1, last := read }
  match f.elem with
  | .header | .data | .check | .response => (g, [])
  | .start => g.positionOver
  | .eof => g.lastPositionOver
  | .sof | .eod => ({ f with run := 0 }, [])

/-- Where the header, data and check bits lead (R5, R10, R207): `f` has the bit just read in it. -/
def Frame.advance (f : Frame) : Frame :=
  match f.elem with
  | .header =>
    if f.count < 28 then f else if lengthOf f.bits = 0 then f.enter .check else f.enter .data
  | .data => if f.count < 8 * lengthOf f.bits then f else f.enter .check
  | .check =>
    if f.count < 16 then f
    else if f.role = .receiver ∧ natOf f.check ≠ f.crc.toNat then f.fail .bit .check
    else { f.enter .eod with run := if f.run = stuffAt then stuffAt else 0 }
  | .sof | .eod | .start | .response | .eof => f

/-- A header, data or check bit taken in (R5 to R10). -/
def Frame.takeBit (f : Frame) (read : Level) : Frame :=
  let g := { f.counted read with count := f.count + 1 }
  if f.elem = .check then { g with check := f.check ++ [read.bit] }.advance
  else
    let h := { g with bits := f.bits ++ [read.bit], crc := crcStep f.crc read.bit }
    if f.role = .receiver ∧ legalAt h.bits h.bits.length = false then h.fail .form .form else h.advance

/-- An arbitration loss: the station is a receiver from this bit on, its LOST provisional (R13, R21). -/
def Frame.lose (f : Frame) : Frame :=
  { f with role := .receiver, lost := true, toSend := [], txCode := some .lost }

/-- A header, data or check bit, no stuff bit, at a station in either role (R13, R14). -/
def Frame.contentBit (f : Frame) (read : Level) : Frame :=
  match f.role with
  | .receiver => f.takeBit read
  | .transmitter =>
    if f.sends = read then { f with toSend := f.toSend.tail }.takeBit read
    else if f.elem = .header ∧ f.count < 24 ∧ read = .dominant then f.lose.takeBit read
    else f.fail .bit .form

/-- A response byte read whole (R15 to R18): its sender is placed at once, or after the stuff bit that
follows it. -/
def Frame.byteRead (f : Frame) (b : Byte) : Frame × List LineEvent :=
  if responseStation b = 0 then (f.fail .form .form, [])
  else
    let g : Frame := { f with
      responses := f.responses ++ [b]
      partialByte := []
      responder := if f.responder = .competing then .sent else f.responder }
    if g.responses.length = Config.windowPositions then
      if f.stuffDue then (g.enter .eof, []) else (g.enter .eof).lastPositionOver
    else if f.stuffDue then (g.enter .start, [])
    else (g.enter .start).positionOver

/-- A bit of a response byte, no stuff bit (R15, R18, R19). -/
def Frame.windowBit (f : Frame) (read : Level) : Frame × List LineEvent :=
  if f.responder = .competing ∧ f.responseBit = .dominant ∧ read = .recessive then (f.fail .form .form, [])
  else
    let g : Frame := { f.counted read with
      count := f.count + 1
      partialByte := f.partialByte ++ [read.bit]
      responder :=
        if f.responder = .competing ∧ f.responseBit ≠ read then .beaten else f.responder }
    if g.count = 2 ∧ g.partialByte.head? = some true then (g.fail .form .form, [])
    else if g.count = 8 then g.byteRead (BitVec.ofNat 8 (natOf g.partialByte))
    else (g, [])

/-- A bit that is no stuff bit (R11, R12, R17, R20). -/
def Frame.plainBit (f : Frame) (read : Level) : Frame × List LineEvent :=
  match f.elem with
  | .sof => if read = .dominant then (f.enter .header, []) else (f.fail .bit .form, [])
  | .header | .data | .check => (f.contentBit read, [])
  | .eod =>
    if read = .dominant then (f.fail .form .form, [])
    else if f.count = 0 then ({ f with count := 1 }, [])
    else if kindOf f.bits = some .call then
      (f.enter .start, if f.role = .receiver then [.eodPoint] else [])
    else (f.enter .eof, [])
  | .start =>
    if read = .dominant then ({ (f.counted read).enter .response with partialByte := [] }, [])
    else if f.responder = .competing then (f.fail .form .form, [])
    else ({ f.enter .eof with count := 1, run := 0 }, [])
  | .response => f.windowBit read
  | .eof =>
    if read = .dominant then (f.fail .form .form, [])
    else if f.count < 7 then ({ f with count := f.count + 1 }, [])
    else
      ({ f with count := 8 }, match f.role with
        | .transmitter => [.attemptSettled .ok]
        | .receiver => [.frameEnd])

/-- A bit read while the station takes part: a stuff bit where one is due, which at the wrong level is a
STUFF error (R4), and a plain bit otherwise. -/
def Frame.readBit (f : Frame) (read : Level) : Frame × List LineEvent :=
  if f.stuffDue then
    if read = f.last then (f.fail .stuff .stuff, []) else f.stuffed read
  else f.plainBit read

/-- The codes that settle at a recessive bit (R21). -/
def Frame.settling (f : Frame) : List LineEvent :=
  (match f.txCode with
    | some c => [LineEvent.attemptSettled c]
    | none => [])
  ++ match f.rxCode with
    | some c => [LineEvent.receiveError c]
    | none => []

/-- One bit of the frame in progress, with the events it brings about: a station that has stopped only
waits for its codes to settle, and every code found settles at once where the bit reads recessive, or at
the first recessive bit after (R20, R21). -/
def Frame.bit (f : Frame) (read : Level) : Frame × List LineEvent :=
  let p := if f.stopped then (f, []) else f.readBit read
  if read = .recessive then ({ p.1 with txCode := none, rxCode := none }, p.1.settling ++ p.2) else p

end Sys2Proof.Machine
end

