-- ==== Sys2Proof/Machine/LineEvents.lean ====
section
/-! DEFINITION. The events that bits on the line bring about, each carried out when its row is taken while
it waits (log 1): settlements, SOFs, the window, frame end, recovery, integration, QUIET and the hold. -/

namespace Sys2Proof.Machine

/-! ## Settlements (R21, R37, R38, R66) -/

/-- Own frames that end in these codes are failures (R37). -/
def TxCode.failed : TxCode → Bool
  | .bit | .stuff | .form => true
  | .ok | .lost | .hold => false

/-- The link goes to QUIET (R38, R40). An end of the own pulse that waits is dropped with the pulse. -/
def State.enterQuiet (s : State) : State :=
  (s.setLc { s.lc with
    state := .quiet
    failures := 0
    holdFlag := false
    pulse := 0
    quiet := some 0
    due := s.lc.due.filter (· != .pulseEnds) }).setFlag .linkNote

/-- The Link Controller's counts and phase after a settled attempt (R22, R37, R38). -/
def State.afterAttempt (s : State) (c : TxCode) : State :=
  match c with
  | .ok => s.setLc { s.lc with failures := 0, phase := .idle, frame := none }
  | .lost | .hold => s
  | .bit | .stuff | .form =>
    let t := s.setLc { s.lc with phase := .recovery, recovery := 0, frame := none }
    if s.lc.failures < Config.failureLimit then t.setLc { t.lc with failures := t.lc.failures + 1 }
    else t.enterQuiet

/-- The response list of the frame in progress (R16). -/
def State.responseList (s : State) : List Byte :=
  match s.lc.frame with
  | some f => f.responses
  | none => []

/-- The code handed to the owner of the candidate in flight (R66). -/
def State.handInFlight (s : State) (c : TxCode) (responses : List Byte) : State × List Occurrence :=
  match s.lc.inFlight with
  | some x => s.handOutcome x c responses
  | none => (s, [])

/-- The settlement of an own attempt: the owner's outcome, the counts, and then the takings and the
arbiter's choice (R63, R66). -/
def State.settleAttempt (s : State) (c : TxCode) : State :=
  let p := s.handInFlight c s.responseList
  (((p.1.countAttempt c).afterAttempt c).settleTasks (separately p.2 ++ [[.choose]])).ripen

/-- The settlement of a receiver's error: the frame is discarded and recovery begins (R20, R22, R117). -/
def State.settleReceive (s : State) (c : RxCode) : State :=
  let t := (s.countReceive c).breakVerdict
  t.setLc { t.lc with phase := .recovery, recovery := 0, frame := none }

/-! ## SOFs (R12, R45, R54, R65, R98, R122) -/

/-- A peer's SOF: the choice is cancelled and the station receives the frame (R12, R65). -/
def State.readPeerSof (s : State) : State :=
  s.setLc { s.lc with choice := none, phase := .frame, frame := some (Frame.start .receiver .header []) }

/-- The data of a slot's frame (R45). -/
def Slot.data (sl : Slot) : List Byte :=
  match sl.kind, sl.call with
  | .cue, _ => sl.payload
  | .call, some (k, g) => callReference k g :: sl.payload
  | .call, none => callReference 0 0 :: sl.payload

/-- Status and result bytes of an obligation's DONE (R122). -/
def Obligation.data (o : Obligation) : List Byte :=
  match o.result with
  | some (st, bs) => st :: bs
  | none => [0]

/-- The header, data and check bits of a candidate's frame, built at its SOF (R45, R98, R122). -/
def State.candidateBits (s : State) : Candidate → List Bool
  | .slot i =>
    let sl := s.slot i
    frameBits sl.priority sl.kind.frameKind sl.topic s.lc.station sl.data
  | .obligation o =>
    frameBits s.lc.protocolPriority .done (s.obl o).tag.topic s.lc.station (s.obl o).data
  | .withdraw k => frameBits s.lc.protocolPriority .withdraw (s.callTag k).topic s.lc.station []

/-- A slot whose SOF is driven is SENDING (R54). -/
def State.markSending (s : State) : Candidate → State
  | .slot i => s.setSlot i { s.slot i with state := .sending }
  | .obligation _ | .withdraw _ => s

/-- SOF driven for a candidate (R12, R54, R66). -/
def State.driveSof (s : State) (c : Candidate) : State :=
  let t := s.markSending c
  t.setLc { t.lc with
    choice := none
    inFlight := some c
    phase := .frame
    frame := some (Frame.start .transmitter .sof (s.candidateBits c)) }

/-- The candidate whose SOF may be driven now: chosen, with permission, on an idle bus, and nothing of the
last bit still waits. -/
def State.sofReady (s : State) : Option Candidate :=
  if s.mayChoose && s.lc.due.isEmpty then s.lc.choice.map Choice.candidate else none

/-! ## The window (R112 to R117) -/

/-- The tag of a CALL frame being received (R7). -/
def Frame.callTag (f : Frame) : CallTag :=
  CallTag.ofCall (sourceOf f.bits) ((dataOf f.bits (lengthOf f.bits)).headD 0)

/-- The response byte of a verdict (R115, R208). -/
def Answer.responseByte (a : Answer) (station : Station) : Byte :=
  Sys2Proof.Machine.responseByte (a == .busy) station

/-- The EOD point of a CALL frame received: the verdict is asked for where R112 allows, once in a frame, and
the station is a responder with it (R115). -/
def State.reachEod (s : State) : State :=
  match s.lc.frame with
  | none => s
  | some f =>
    if f.role = .receiver ∧ f.lost = false ∧ f.stopped = false ∧ s.permission = true ∧ s.ou.verdict = none then
      match s.enrollingFilter (topicOf f.bits) with
      | none => s
      | some flt =>
        let p := s.takeVerdict f.callTag (topicOf f.bits) flt
        let t := p.1.setVerdict (some { answer := p.2, placed := false })
        t.setLc { t.lc with frame := some { f with
          responder := .competing, ownByte := p.2.responseByte s.lc.station } }
    else s

/-- The station's byte has been read back whole in a position (R115). -/
def State.notePlaced (s : State) : State :=
  s.setVerdict (s.ou.verdict.map fun v => { v with placed := true })

/-- The window has closed with the station unplaced (R116). -/
def State.noteCrowded (s : State) : State := (s.releaseVerdict.countStat .crowded).setFlag .oblNote

/-! ## Frame end (R11, R71, R93, R118, R124) -/

/-- A frame in progress as it is handed on; its kind has been found legal. -/
def Frame.received (f : Frame) : RxFrame where
  priority := priorityOf f.bits
  kind := (kindOf f.bits).getD .cue
  topic := topicOf f.bits
  source := sourceOf f.bits
  data := dataOf f.bits (lengthOf f.bits)
  responses := f.responses

/-- The event of the Obligation Unit or the Call Unit at a frame end (R93, R118, R124). A verdict record there
is comes from the frame that ends (R113). -/
def State.unitEvent (s : State) (x : RxFrame) : List Task :=
  (match s.ou.verdict with
  | some _ => [.openObligation]
  | none => [])
  ++ match x.kind with
  | .cue | .call => []
  | .done => if s.ownsDone x then [.doneArrival x] else []
  | .withdraw => [.withdrawArrival x]

/-- The frame end of a received frame, code OK (R11, R22). -/
def State.endFrame (s : State) : State :=
  match s.lc.frame with
  | none => s
  | some f =>
    let t := s.setLc { s.lc with phase := .idle, frame := none }
    (t.settleTasks [[.matchFrame f.received], s.unitEvent f.received, [.choose]]).ripen

/-! ## Recovery, integration, QUIET (R22, R26, R40) -/

/-- The error-recovery gap completes (R22). -/
def State.endRecovery (s : State) : State := (s.setLc { s.lc with phase := .idle }).arbiter.ripen

/-- Integration completes (R26). -/
def State.endIntegration (s : State) : State :=
  ((s.setLc { s.lc with state := .active, phase := .idle, integration := 0 }).setFlag
    .linkNote).arbiter.ripen

/-- The events that a QUIET period's end leaves standing: those of the hold (R32, R40; log 18). -/
def LineEvent.ofHold : LineEvent → Bool
  | .holdDetected | .persistenceMark | .holdEnded => true
  | .attemptSettled _ | .receiveError _ | .peerSof | .eodPoint | .placed | .crowded | .frameEnd
  | .recoveryGap | .integration | .pulseEnds | .quietEnds => false

/-- The QUIET period ends (R32, R40). -/
def State.endQuiet (s : State) : State :=
  (s.setLc { s.lc with
    state := .integrating
    quiet := none
    integration := 0
    frame := none
    phase := if s.lc.phase = .hold then .hold else .await
    holdInAwait := s.lc.phase == .hold
    due := s.lc.due.filter LineEvent.ofHold }).setFlag .linkNote

/-! ## The hold (R22, R23, R29 to R31, R33) -/

/-- Hold detected (R29). -/
def State.beginHold (s : State) : State :=
  let p := s.handInFlight .hold []
  let t := p.1.breakVerdict
  let u := t.setLc { t.lc with
    choice := none
    frame := none
    holdInAwait := t.lc.phase == .await
    phase := .hold
    persistence := 0
    holdEnd := 0
    held := true }
  (u.setFlag .holdNote).settleTasks (separately p.2 ++ [[.take .holdBegin]])

/-- A persistence mark (R30). -/
def State.markPersistence (s : State) : State :=
  (s.setFlag .holdNote).settleTasks [[.take .holdPersists]]

/-- Hold ended (R31). -/
def State.endHold (s : State) : State :=
  let t := s.setLc { s.lc with
    held := false
    phase := if s.lc.holdInAwait then .await else .idle
    holdInAwait := false
    integration := 0
    dominantRun := 0
    persistence := 0
    holdEnd := 0 }
  ((t.setFlag .holdNote).settleTasks [[.take .holdEnd], [.choose]]).ripen

/-- The own pulse ends (R33). -/
def State.endPulse (s : State) : State := (s.setLc { s.lc with pulse := 0 }).arbiter.ripen

/-! ## Carrying out what waits (log 1) -/

/-- A line event carried out; it no longer waits. -/
def State.carryOut (s : State) : LineEvent → State
  | .attemptSettled c => s.settleAttempt c
  | .receiveError c => s.settleReceive c
  | .peerSof => s.readPeerSof
  | .eodPoint => s.reachEod
  | .placed => s.notePlaced
  | .crowded => s.noteCrowded
  | .frameEnd => s.endFrame
  | .recoveryGap => s.endRecovery
  | .integration => s.endIntegration
  | .holdDetected => s.beginHold
  | .persistenceMark => s.markPersistence
  | .holdEnded => s.endHold
  | .pulseEnds => s.endPulse
  | .quietEnds => s.endQuiet

/-- The condition under which the rules give a line event: a phase (R11, R12, R22, R23), none in flight at
the end of a frame received (R66), INTEGRATING in AWAIT (R26), QUIET (R40), a candidate in flight (R66), a
running pulse (R33). -/
def LinkController.permits (lc : LinkController) : LineEvent → Bool
  | .attemptSettled _ => lc.inFlight.isSome
  | .receiveError _ | .eodPoint | .placed | .crowded => lc.phase == .frame
  | .frameEnd => lc.phase == .frame && lc.inFlight.isNone
  | .peerSof => lc.phase == .idle
  | .recoveryGap => lc.phase == .recovery
  | .integration => lc.state == .integrating && lc.phase == .await
  | .holdDetected => lc.phase != .hold && lc.phase != .out
  | .persistenceMark | .holdEnded => lc.phase == .hold
  | .pulseEnds => lc.pulse != 0
  | .quietEnds => lc.state == .quiet

/-- The first waiting event that `p` names is carried out; where none waits, nothing changes (log 2). -/
def State.carryFirst (s : State) (p : LineEvent → Bool) : State :=
  match s.lc.due.find? p with
  | some e =>
    let t := s.setLc { s.lc with due := s.lc.due.erase e }
    if s.lc.permits e then t.carryOut e else t
  | none => s

/-- Every waiting line event carried out, in order (log 3). -/
def drainLine : Nat → State → State
  | 0, s => s
  | n + 1, s => drainLine n (s.carryFirst fun _ => true)

/-! ## The rows -/

/-- The settlement of an own attempt waits as this event. -/
def LineEvent.isAttempt : LineEvent → Bool
  | .attemptSettled _ => true
  | _ => false

/-- A receiver's settlement waits as this event. -/
def LineEvent.isReceive : LineEvent → Bool
  | .receiveError _ => true
  | _ => false

/-- PEER_SOF (R12). -/
def execPeerSof (s : State) : Answered := .next (s.carryFirst (· == .peerSof))

/-- SOF_DRIVEN (R54). -/
def execSofDriven (s : State) : Answered :=
  .next (match s.sofReady with
    | some c => s.driveSof c
    | none => s)

/-- EOD_POINT (R112). -/
def execEodPoint (s : State) : Answered := .next (s.carryFirst (· == .eodPoint))

/-- PLACED (R115). -/
def execPlaced (s : State) : Answered := .next (s.carryFirst (· == .placed))

/-- CROWDED (R116). -/
def execCrowded (s : State) : Answered := .next (s.carryFirst (· == .crowded))

/-- FRAME_END (R11). -/
def execFrameEnd (s : State) : Answered := .next (s.carryFirst (· == .frameEnd))

/-- RECEIVE_ERROR (R20). -/
def execReceiveError (s : State) : Answered := .next (s.carryFirst LineEvent.isReceive)

/-- ATTEMPT_SETTLED (R66). -/
def execAttemptSettled (s : State) : Answered := .next (s.carryFirst LineEvent.isAttempt)

/-- RECOVERY_GAP_COMPLETES (R22). -/
def execRecoveryGapCompletes (s : State) : Answered := .next (s.carryFirst (· == .recoveryGap))

/-- INTEGRATION_COMPLETES (R26). -/
def execIntegrationCompletes (s : State) : Answered := .next (s.carryFirst (· == .integration))

/-- QUIET_PERIOD_ENDS (R40). -/
def execQuietPeriodEnds (s : State) : Answered := .next (s.carryFirst (· == .quietEnds))

/-- HOLD_DETECTED (R29). -/
def execHoldDetected (s : State) : Answered := .next (s.carryFirst (· == .holdDetected))

/-- PERSISTENCE_MARK (R30). -/
def execPersistenceMark (s : State) : Answered := .next (s.carryFirst (· == .persistenceMark))

/-- HOLD_ENDED (R31). -/
def execHoldEnded (s : State) : Answered := .next (s.carryFirst (· == .holdEnded))

/-- PULSE_ENDS (R33). -/
def execPulseEnds (s : State) : Answered := .next (s.carryFirst (· == .pulseEnds))

end Sys2Proof.Machine
end

