-- ==== Sys2Proof/Machine/Clock.lean ====
section
/-! DEFINITION. Time and samples: the events a time step brings about (R92, R160, R169, R170, R175), the time
step itself (R91, R158, R174) and the sample point (R2, R22, R23, R26, R33, R40). -/

namespace Sys2Proof.Machine

/-! ## Events of a time step -/

/-- The expiry of a call's deadline (R92). -/
def State.expireCall (s : State) (k : Fin 8) : State :=
  let e := s.call k
  if e.expiring = true ∧ e.state = .opened then
    ((s.setCall k { e with remaining := 0, fraction := 0 }).settleCall k .expired).settleTasks
      (separately [.callSettled k .expired])
  else s

/-- The expiry of a timer (R160). -/
def State.expireTimer (s : State) (t : Fin 4) : State :=
  if (s.timer t).expiring then
    (s.setTimer t (s.timer t).expired).settleTasks (separately [.timerExpire t])
  else s

/-- A leading edge is due: the rest part has run its length. -/
def Train.leadingDue (t : Train) : Bool := t.edgeDue && t.running && t.part == .rest

/-- A trailing edge is due: the active part has run its length. -/
def Train.trailingDue (t : Train) : Bool := t.edgeDue && t.running && t.part == .active

/-- The leading edge of a train (R169). -/
def State.leadTrain (s : State) (g : Fin 2) : State :=
  let t := s.train g
  if t.leadingDue then
    ((s.setTrain g
      { t with part := .active, elapsed := 0, pulses := t.pulses + 1, edgeDue := false }).driveTrain
        g true).settleTasks (separately [.trainPulse g])
  else s

/-- How the trailing edge of a train ends its run; none where the run goes on (R170). -/
def Train.runEnd (t : Train) : Option TrainEnd :=
  if t.count ≠ 0 ∧ t.pulses = t.count then some .complete
  else if t.stopMark then some .stopped
  else none

/-- The trailing edge of a train (R169, R170). -/
def State.trailTrain (s : State) (g : Fin 2) : State :=
  let t := s.train g
  if t.trailingDue then
    match t.runEnd with
    | some e =>
      ((s.setTrain g t.idled).driveTrain g false).settleTasks (separately [.trainDone g e])
    | none =>
      (s.setTrain g { t with part := .rest, elapsed := 0, edgeDue := false }).driveTrain g false
  else s

/-- The edge that a change to `level` is (R175). -/
def Edge.to (level : Bool) : Edge := if level then .rise else .fall

/-- The edge of an input line (R175): the counters and the occurrence follow in any order. -/
def State.edgeInput (s : State) (k : Fin 8) : State :=
  let x := s.input k
  if x.edgeDue then
    let e := Edge.to !x.level
    (s.setInput k { x with level := !x.level, settling := none, edgeDue := false }).settleTasks
      [[.count 0 k e], [.count 1 k e], [.take (.inputEdge k e)]]
  else s

/-- DEADLINE_EXPIRY (R92). -/
def execDeadlineExpiry (entry : Fin 8) (s : State) : Answered := .next (s.expireCall entry)

/-- TIMER_EXPIRE (R160). -/
def execTimerExpire (timer : Fin 4) (s : State) : Answered := .next (s.expireTimer timer)

/-- LEADING_EDGE (R169). -/
def execLeadingEdge (train : Fin 2) (s : State) : Answered := .next (s.leadTrain train)

/-- TRAILING_EDGE (R170). -/
def execTrailingEdge (train : Fin 2) (s : State) : Answered := .next (s.trailTrain train)

/-- INPUT_EDGE (R175). -/
def execInputEdge (line : Fin 8) (s : State) : Answered := .next (s.edgeInput line)

/-! ## What still waits when time goes on (log 3) -/

/-- A train's edge, whichever is due. -/
def State.edgeTrain (s : State) (g : Fin 2) : State :=
  if (s.train g).part = .rest then s.leadTrain g else s.trailTrain g

/-- Every event that waits from the last time step: inputs, timers, trains, calls. -/
def State.drainTime (s : State) : State :=
  let a := (List.finRange 8).foldl State.edgeInput s
  let b := (List.finRange 4).foldl State.expireTimer a
  let c := (List.finRange 2).foldl State.edgeTrain b
  (List.finRange 8).foldl State.expireCall c

/-- Every event that waits: those of the line and then those of time. -/
def State.settleDue (s : State) : State := (drainLine s.lc.due.length s).drainTime

/-! ## The time step (R91, R158, R160, R169, R174) -/

/-- One microsecond of a timer (R160). -/
def Timer.tick (t : Timer) : Timer :=
  if t.running then
    if t.count + 1 < t.limit then { t with count := t.count + 1 } else { t with expiring := true }
  else t

/-- The length of the part in progress (R169). -/
def Train.partLength (t : Train) : Nat :=
  match t.part with
  | .rest => t.period - t.width
  | .active => t.width

/-- One microsecond of a train (R169). -/
def Train.tick (t : Train) : Train :=
  if t.running then
    if t.elapsed + 1 < t.partLength then { t with elapsed := t.elapsed + 1 } else { t with edgeDue := true }
  else t

/-- One microsecond of an OPEN call on a CLEAR line (R91). The one that brings remaining to 0 makes the
expiry wait. -/
def CallEntry.tick (e : CallEntry) : CallEntry :=
  if e.state = .opened then
    if e.fraction + 1 < 1000 then { e with fraction := e.fraction + 1 }
    else if 1 < e.remaining then { e with fraction := 0, remaining := e.remaining - 1 }
    else { e with expiring := true }
  else e

/-- One sample of an input line (R174, R190). -/
def InputLine.sample (x : InputLine) (level : Bool) : InputLine :=
  if level = x.level then { x with settling := none }
  else
    match x.settling with
    | none => { x with settling := some 0, edgeDue := x.settleTime == 0 }
    | some n => { x with settling := some (n + 1), edgeDue := decide (x.settleTime ≤ n + 1) }

/-- The completion of a microsecond: the time base, and everything that counts its steps. Calls count on a CLEAR
line alone, so not in the 12 recessive bt that end a hold, the model's choice where R91 says both (log 24). -/
def State.tick (s : State) (inputs : Byte) : State :=
  { s with
    tu := { s.tu with
      timeBase := s.tu.timeBase + 1
      timers := Vector.ofFn fun t => (s.timer t).tick
      trains := Vector.ofFn fun g => (s.train g).tick }
    cu := if s.lc.held then s.cu else Vector.ofFn fun k => (s.call k).tick
    lu := { s.lu with inputs := Vector.ofFn fun k => (s.input k).sample (inputs.getLsbD k.val) } }

/-- TIME_STEP (R158). -/
def execTimeStep (inputs : Byte) (s : State) : Answered := .next (s.settleDue.tick inputs)

/-! ## The sample point (R2, R22, R23, R26, R33, R40) -/

/-- The station drives its own hold (R28, R33). -/
def State.drivesHold (s : State) : Bool := s.lc.state == .active && s.ownHold

/-- What a bit read means to the phase (R22, R23, R26). -/
def LinkController.phaseBit (lc : LinkController) (ownHold : Bool) (read : Level) :
    LinkController × List LineEvent :=
  match lc.phase, read with
  | .out, _ => (lc, [])
  | .await, .dominant => ({ lc with integration := 0 }, [])
  | .await, .recessive =>
    ({ lc with integration := lc.integration + 1 },
      if lc.integration + 1 = Config.integrationAt then [.integration] else [])
  | .idle, .dominant => (lc, if ownHold then [] else [.peerSof])
  | .idle, .recessive => (lc, [])
  | .frame, _ =>
    match lc.frame with
    | some f => ({ lc with frame := some (f.bit read).1 }, (f.bit read).2)
    | none => (lc, [])
  | .recovery, .dominant => ({ lc with recovery := 0 }, [])
  | .recovery, .recessive =>
    ({ lc with recovery := lc.recovery + 1 },
      if lc.recovery + 1 = Config.recoveryAt then [.recoveryGap] else [])
  | .hold, .dominant =>
    if lc.persistence + 1 = Config.persistenceAt then
      ({ lc with persistence := 0, holdEnd := 0 }, [.persistenceMark])
    else ({ lc with persistence := lc.persistence + 1, holdEnd := 0 }, [])
  | .hold, .recessive =>
    ({ lc with persistence := 0, holdEnd := lc.holdEnd + 1 },
      if lc.holdEnd + 1 = Config.holdEndedAt then [.holdEnded] else [])

/-- The dominant-run count (R23): the 16th is hold detected in any phase but HOLD. -/
def LinkController.runBit (lc : LinkController) (read : Level) : LinkController × List LineEvent :=
  match read with
  | .recessive => ({ lc with dominantRun := 0 }, [])
  | .dominant =>
    ({ lc with dominantRun := min (lc.dominantRun + 1) Config.holdDetectedAt },
      if lc.dominantRun + 1 = Config.holdDetectedAt ∧ lc.phase ≠ .hold then [.holdDetected] else [])

/-- The own pulse runs one bt; the one that brings it to 0 makes its end wait (R33). -/
def LinkController.pulseBit (lc : LinkController) : LinkController × List LineEvent :=
  if lc.pulse = 0 then (lc, [])
  else if lc.pulse = 1 then (lc, [.pulseEnds])
  else ({ lc with pulse := lc.pulse - 1 }, [])

/-- The QUIET period runs one bt (R40). -/
def LinkController.quietBit (lc : LinkController) : LinkController × List LineEvent :=
  match lc.quiet with
  | none => (lc, [])
  | some n =>
    if n + 1 < Config.quietPeriod then ({ lc with quiet := some (n + 1) }, []) else (lc, [.quietEnds])

/-- The counts of one bit, with the line events that now wait. -/
def LinkController.bit (lc : LinkController) (ownHold : Bool) (read : Level) : LinkController :=
  let a := lc.runBit read
  let b := a.1.phaseBit ownHold read
  let c := b.1.pulseBit
  let d := c.1.quietBit
  { d.1 with due := lc.due ++ b.2 ++ a.2 ++ c.2 ++ d.2 }

/-- A choice whose bit time has come drives its SOF (R12, R63; log 7). -/
def State.driveDueSof (s : State) : State :=
  match s.lc.choice, s.sofReady with
  | some { due := true, .. }, some c => s.driveSof c
  | _, _ => s

/-- The state in which the bit time of the next sample point runs: what still waits is carried out, and a
choice whose bit time has come has its SOF driven (R12, R63; logs 3 and 7). -/
def State.inBitTime (s : State) : State := s.settleDue.driveDueSof

/-- The level that the station gives the line for its own hold and its part in a frame; in ACTIVE alone
(R28, R33). -/
def State.driven (s : State) : Level :=
  if s.drivesHold then .dominant
  else
    match s.lc.frame with
    | some f => if s.lc.state = .active then f.drive else .recessive
    | none => .recessive

/-- The level on BUSTX in the bit time of the next sample point: released outside the line, and otherwise what
that sample point finds driven (R1). -/
def State.busTx (s : State) : Level := if s.lc.phase = .out then .recessive else s.inBitTime.driven

/-- A choice held on an idle bus has its SOF in the next bit time (R12; log 7). -/
def State.ripenIdle (s : State) : State := if s.lc.phase = .idle then s.ripen else s

/-- The bit read at a sample point, and nothing before it. -/
def State.readBit (s : State) (read : Level) : State :=
  (s.setLc (s.lc.bit s.drivesHold read)).ripenIdle

/-- SAMPLE_POINT: outside the line nothing is read (R1); otherwise the bit is read that BUSTX was driven in. -/
def execSamplePoint (level : Level) (s : State) : Answered :=
  .next (if s.lc.phase = .out then s else s.inBitTime.readBit level)

end Sys2Proof.Machine
end

