-- ==== Sys2Proof/Machine/Dispatch.lean ====
section
/-! DEFINITION. The commands' meanings, one arm for each row of spec/opcode_table.json. -/

namespace Sys2Proof.Machine

def exec (i : Instr) (s : State) : Host.Outcome State Fault Refusal :=
  match i with
  | .deviceReset held hcsLow => Sys2Proof.Machine.execDeviceReset s held hcsLow
  | .hcsFall => Sys2Proof.Machine.execHcsFall s
  | .hcsRise clocked => Sys2Proof.Machine.execHcsRise clocked s
  | .unknownCommand code => Sys2Proof.Machine.execUnknownCommand code s
  | .join => Sys2Proof.Machine.execJoin s
  | .leave => Sys2Proof.Machine.execLeave s
  | .holdAssert => Sys2Proof.Machine.execHoldAssert s
  | .holdRelease => Sys2Proof.Machine.execHoldRelease s
  | .linkRead => Sys2Proof.Machine.execLinkRead s
  | .statsRead => Sys2Proof.Machine.execStatsRead s
  | .reset => Sys2Proof.Machine.execReset s
  | .load kind index fields => Sys2Proof.Machine.execLoad kind index fields s
  | .slotWrite slot priority kind topic deadline length payload => Sys2Proof.Machine.execSlotWrite slot priority kind topic deadline length payload s
  | .slotRequest slot => Sys2Proof.Machine.execSlotRequest slot s
  | .slotAbort slot => Sys2Proof.Machine.execSlotAbort slot s
  | .slotClear slot => Sys2Proof.Machine.execSlotClear slot s
  | .slotRead slot => Sys2Proof.Machine.execSlotRead slot s
  | .rxRead => Sys2Proof.Machine.execRxRead s
  | .rxRelease => Sys2Proof.Machine.execRxRelease s
  | .callWithdraw entry => Sys2Proof.Machine.execCallWithdraw entry s
  | .callClear entry => Sys2Proof.Machine.execCallClear entry s
  | .callRead entry => Sys2Proof.Machine.execCallRead entry s
  | .oblFinish entry status count bytes => Sys2Proof.Machine.execOblFinish entry status count bytes s
  | .oblDiscard entry => Sys2Proof.Machine.execOblDiscard entry s
  | .oblRead entry => Sys2Proof.Machine.execOblRead entry s
  | .reactArm reaction => Sys2Proof.Machine.execReactArm reaction s
  | .reactDisarm reaction => Sys2Proof.Machine.execReactDisarm reaction s
  | .reactForce reaction => Sys2Proof.Machine.execReactForce reaction s
  | .reactRead reaction => Sys2Proof.Machine.execReactRead reaction s
  | .timerStart timer => Sys2Proof.Machine.execTimerStart timer s
  | .timerStop timer => Sys2Proof.Machine.execTimerStop timer s
  | .timerLimit timer limit => Sys2Proof.Machine.execTimerLimit timer limit s
  | .timerRead timer => Sys2Proof.Machine.execTimerRead timer s
  | .counterRead counter => Sys2Proof.Machine.execCounterRead counter s
  | .counterClear counter => Sys2Proof.Machine.execCounterClear counter s
  | .trainStart train => Sys2Proof.Machine.execTrainStart train s
  | .trainStop train => Sys2Proof.Machine.execTrainStop train s
  | .trainRead train => Sys2Proof.Machine.execTrainRead train s
  | .outputWrite lines levels => Sys2Proof.Machine.execOutputWrite lines levels s
  | .linesRead => Sys2Proof.Machine.execLinesRead s
  | .flagsRead => Sys2Proof.Machine.execFlagsRead s
  | .indexRead => Sys2Proof.Machine.execIndexRead s
  | .detailRead selector => Sys2Proof.Machine.execDetailRead selector s
  | .enableWrite enables => Sys2Proof.Machine.execEnableWrite enables s
  | .peerSof => Sys2Proof.Machine.execPeerSof s
  | .sofDriven => Sys2Proof.Machine.execSofDriven s
  | .eodPoint => Sys2Proof.Machine.execEodPoint s
  | .placed => Sys2Proof.Machine.execPlaced s
  | .crowded => Sys2Proof.Machine.execCrowded s
  | .frameEnd => Sys2Proof.Machine.execFrameEnd s
  | .receiveError => Sys2Proof.Machine.execReceiveError s
  | .attemptSettled => Sys2Proof.Machine.execAttemptSettled s
  | .recoveryGapCompletes => Sys2Proof.Machine.execRecoveryGapCompletes s
  | .integrationCompletes => Sys2Proof.Machine.execIntegrationCompletes s
  | .quietPeriodEnds => Sys2Proof.Machine.execQuietPeriodEnds s
  | .holdDetected => Sys2Proof.Machine.execHoldDetected s
  | .persistenceMark => Sys2Proof.Machine.execPersistenceMark s
  | .holdEnded => Sys2Proof.Machine.execHoldEnded s
  | .pulseEnds => Sys2Proof.Machine.execPulseEnds s
  | .timeStep inputs => Sys2Proof.Machine.execTimeStep inputs s
  | .deadlineExpiry entry => Sys2Proof.Machine.execDeadlineExpiry entry s
  | .timerExpire timer => Sys2Proof.Machine.execTimerExpire timer s
  | .leadingEdge train => Sys2Proof.Machine.execLeadingEdge train s
  | .trailingEdge train => Sys2Proof.Machine.execTrailingEdge train s
  | .inputEdge line => Sys2Proof.Machine.execInputEdge line s
  | .samplePoint level => Sys2Proof.Machine.execSamplePoint level s
  | .byteCompletes byte => Sys2Proof.Machine.execByteCompletes byte s

end Sys2Proof.Machine
end

