-- ==== Sys2Proof/Safety.lean ====
section
/-! DEFINITION. What the statements speak of: commands in their own transaction, the state after device
reset, what waits, two stations on one line, and the invariants of a run, block by block. -/

namespace Sys2Proof.Machine

/-! ## Commands and link states -/

/-- The port can take command `c` in the transaction in progress, or in one that begins (R193, R194). -/
def State.ready (s : State) (c : Instr) : Prop :=
  ∃ bytes, encodeCommand c = some bytes ∧ s.hp.phase.accepts bytes = true

/-- The station follows the line (R24). -/
def State.follows (s : State) : Prop :=
  s.lc.state = .integrating ∨ s.lc.state = .active ∨ s.lc.state = .quiet

/-- The byte by which a command names one of the members of a table, and how many members there are (R46 to
R53, R97 to R103, R120 to R126, R151 to R154, R161 to R173). -/
def Instr.member : Instr → Option (Byte × Nat)
  | .slotWrite b _ _ _ _ _ _ | .slotRequest b | .slotAbort b | .slotClear b | .slotRead b => some (b, 8)
  | .callWithdraw b | .callClear b | .callRead b => some (b, 8)
  | .oblFinish b _ _ _ | .oblDiscard b | .oblRead b => some (b, 8)
  | .reactArm b | .reactDisarm b | .reactForce b | .reactRead b => some (b, 24)
  | .timerStart b | .timerStop b | .timerLimit b _ | .timerRead b => some (b, 4)
  | .counterRead b | .counterClear b => some (b, 2)
  | .trainStart b | .trainStop b | .trainRead b => some (b, 2)
  | _ => none

/-- The commands that are refused with STATE in CONFIG alone (R151 to R153, R161, R162, R167, R172,
R177). -/
def Instr.afterJoin : Instr → Bool
  | .reactArm _ | .reactDisarm _ | .reactForce _ | .timerStart _ | .timerStop _ | .timerLimit _ _
  | .counterClear _ | .trainStart _ | .trainStop _ | .outputWrite _ _ => true
  | _ => false

/-- The two bytes of a number, most significant first (R206). -/
def two (n : Nat) : List Byte := [BitVec.ofNat 8 (n / 256), BitVec.ofNat 8 n]

/-- The three bytes of a number, most significant first (R206). -/
def three (n : Nat) : List Byte := [BitVec.ofNat 8 (n / 65536), BitVec.ofNat 8 (n / 256), BitVec.ofNat 8 n]

/-- The four bytes of a time base value, most significant first (R206). -/
def four (x : Stamp) : List Byte :=
  [x.extractLsb' 24 8, x.extractLsb' 16 8, x.extractLsb' 8 8, x.extractLsb' 0 8]

/-- Nothing waits to be carried out (log 1). -/
structure State.Rested (s : State) : Prop where
  line : s.lc.due = []
  inputs : ∀ k, (s.input k).edgeDue = false
  timers : ∀ t, (s.timer t).expiring = false
  trains : ∀ g, (s.train g).edgeDue = false
  calls : ∀ k, (s.call k).expiring = false

/-! ## Device reset -/

/-- Every block at its values after device reset, as the tables of the spec give them. The host port is
left out: what it is after reset depends on the levels on RESET and HCS (R197). -/
structure State.IsReset (s : State) : Prop where
  /-- R43 -/
  link : s.lc.state = .config ∧ s.lc.phase = .out ∧ s.lc.held = false ∧ s.lc.holdFlag = false
    ∧ s.lc.pulse = 0 ∧ s.lc.failures = 0 ∧ s.lc.inFlight = none ∧ s.lc.choice = none ∧ s.lc.frame = none
  /-- R43 -/
  counts : s.lc.integration = 0 ∧ s.lc.dominantRun = 0 ∧ s.lc.persistence = 0 ∧ s.lc.holdEnd = 0
    ∧ s.lc.recovery = 0 ∧ s.lc.quiet = none ∧ s.lc.due = []
  /-- R43, R184 -/
  parameters : s.lc.station = 0 ∧ s.lc.rate = .k125 ∧ s.lc.protocolPriority = 1 ∧ s.lc.retryLimit = 3
    ∧ s.lc.holdLength = 64
  /-- R41, R43 -/
  stats : ∀ c, s.stat c = 0
  /-- BUSTX is released (R43) -/
  released : s.busTx = .recessive
  /-- R44 -/
  slots : ∀ i, s.slot i
    = { state := .empty, priority := 0, kind := .cue, topic := 0, payload := [], deadline := 0, attempts := 0,
        losses := 0, lastCode := none, rerun := false, abort := false, abortTooLate := false,
        rerunDropped := false, call := none, sentAt := 0 }
  /-- R68, R83 -/
  masks : ∀ m : Fin 4, s.au.masks[m] = 0xFFF
  /-- R69, R83 -/
  filters : ∀ f, s.filter f = { enabled := false, topic := 0, maskIndex := 0, kinds := 0, roles := 0 }
  /-- R83 -/
  received : s.au.matchSet = 0 ∧ s.rq = []
  /-- R84, R110 -/
  calls : ∀ k, s.call k
    = { state := .free, generation := 0, slot := none, topic := 0, deadline := 0, remaining := 0,
        fraction := 0, enrolled := [], busy := [], outstanding := [], results := [], unanswered := [],
        outcome := none, withdrawPending := false, withdrawAttempts := 0, openedAt := 0, settledAt := 0,
        expiring := false }
  /-- R111, R130 -/
  obligations : ∀ o, s.obl o
    = { state := .free, tag := { caller := 0, index := 0, generation := 0 }, topic := 0, filter := 0,
        openedAt := 0, result := none, attempts := 0 }
  /-- R130 -/
  verdict : s.ou.verdict = none
  /-- R131, R157 -/
  definitions : ∀ r, s.reaction r
    = { trigger := .none, selector := 0, qualifier := 0, gate := .none, gateLine := 0, action := .notify,
        target := 0, parameter := 0, budget := 0, initialArmed := false }
  /-- R135, R157 -/
  runs : ∀ r, s.run r
    = { arm := .disarmed, remaining := 0, fireCount := 0, firedAt := 0, lastResult := none, lastNotice := 0 }
  /-- R136, R157 -/
  records : s.re.refusal = none ∧ s.re.chainLimit = none ∧ s.re.notices = 0
  /-- R158, R181 -/
  time : s.tu.timeBase = 0
  /-- R159, R181 -/
  timers : ∀ t, s.timer t = { limit := 1000, mode := .once, running := false, count := 0, expiring := false }
  /-- R165, R181 -/
  counters : ∀ c, s.counter c = { source := 0, edge := .none, compare := 0, count := 0 }
  /-- R168, R181 -/
  trains : ∀ g, s.train g
    = { line := 0, period := 2, width := 1, count := 0, running := false, part := .rest, elapsed := 0,
        pulses := 0, stopMark := false, edgeDue := false }
  /-- R174, R181 -/
  inputs : ∀ k, s.input k = { level := false, settling := none, settleTime := 0, edgeDue := false }
  /-- R176, R181 -/
  outputs : ∀ k, s.output k = { rest := false, owner := .level, level := false }
  /-- R199, R200, R204 -/
  events : s.eu = { flags := 0, enables := 0, slotsDone := 0, callsSettled := 0, oblsOpened := 0, oblsChanged := 0 }
  /-- R184, R192 -/
  station : s.image.station
    = { number := 0, rate := .k125, protocolPriority := 1, retryLimit := 3, holdLength := 64 }
  /-- R186, R192 -/
  lines : ∀ k : Fin 8, s.image.lines[k] = { settleTime := 0, rest := false, owner := .level }
  /-- R186, R192 -/
  imageTimers : ∀ t : Fin 4, s.image.timers[t] = { limit := 1000, mode := .once }
  /-- R186, R192 -/
  imageCounters : ∀ c : Fin 2, s.image.counters[c] = { source := 0, edge := .none, compare := 0 }
  /-- R186, R192 -/
  imageTrains : ∀ g : Fin 2, s.image.trains[g] = { line := 0, period := 2, width := 1, count := 0 }

/-! ## What a taking can reach -/

/-- What actions cannot change (R134, R146 to R150): the two states agree on it. -/
structure State.SameBesidesActions (s t : State) : Prop where
  ports : t.hp = s.hp ∧ t.image = s.image ∧ t.pending = s.pending
  received : t.rq = s.rq ∧ t.au = s.au
  verdict : t.ou.verdict = s.ou.verdict
  time : t.now = s.now ∧ t.lu.inputs = s.lu.inputs
  definitions : t.re.defs = s.re.defs
  /-- of the Link Controller, the choice, the pulse and an end of the pulse that waits may change -/
  link : t.lc = { s.lc with choice := t.lc.choice, pulse := t.lc.pulse, due := t.lc.due }
  /-- an action sets no flag but REACT_LIMIT and REACT_NOTICE, clears none, and marks no detail set -/
  events : t.eu = { s.eu with flags := t.eu.flags }
  flags : ∀ f, f ≠ .reactLimit → f ≠ .reactNotice → t.flag f = s.flag f
  set_flags : ∀ f, s.flag f = true → t.flag f = true
  slots : ∀ i, (t.slot i).priority = (s.slot i).priority ∧ (t.slot i).kind = (s.slot i).kind
    ∧ (t.slot i).topic = (s.slot i).topic ∧ (t.slot i).payload = (s.slot i).payload
    ∧ (t.slot i).deadline = (s.slot i).deadline ∧ (t.slot i).lastCode = (s.slot i).lastCode
    ∧ (t.slot i).abort = (s.slot i).abort ∧ (t.slot i).sentAt = (s.slot i).sentAt
  /-- a call entry that is not FREE is left as it stands -/
  calls : ∀ k, (s.call k).state ≠ .free → t.call k = s.call k
  /-- an obligation that is not OPEN is left as it stands -/
  obligations : ∀ o, (s.obl o).state ≠ .opened → t.obl o = s.obl o
  timers : ∀ x, (t.timer x).mode = (s.timer x).mode
  counters : ∀ c, (t.counter c).source = (s.counter c).source ∧ (t.counter c).edge = (s.counter c).edge
    ∧ (t.counter c).compare = (s.counter c).compare
  trains : ∀ g, (t.train g).line = (s.train g).line ∧ (t.train g).period = (s.train g).period
    ∧ (t.train g).width = (s.train g).width ∧ (t.train g).count = (s.train g).count
  outputs : ∀ k, (t.output k).rest = (s.output k).rest ∧ (t.output k).owner = (s.output k).owner

/-! ## Two stations on one line (R1, R13) -/

/-- Two stations in one frame, each with the events that its bits have brought about. -/
structure Pair where
  first : Frame
  second : Frame
  firstEvents : List LineEvent
  secondEvents : List LineEvent
  deriving DecidableEq, Repr

/-- The level of a line that two stations drive (R1). -/
def lineLevel (a b : Level) : Level := if a = .dominant ∨ b = .dominant then .dominant else .recessive

/-- One bit time: both drive, and both read the line (R1, R2). -/
def Pair.bit (p : Pair) : Pair :=
  let level := lineLevel p.first.drive p.second.drive
  { first := (p.first.bit level).1
    second := (p.second.bit level).1
    firstEvents := p.firstEvents ++ (p.first.bit level).2
    secondEvents := p.secondEvents ++ (p.second.bit level).2 }

/-- `n` bit times. -/
def Pair.run : Nat → Pair → Pair
  | 0, p => p
  | n + 1, p => Pair.run n p.bit

/-- The frame that a station sends, as its parts and as the bits on the wire (R5, R207). -/
def RxFrame.bits (x : RxFrame) : List Bool := frameBits x.priority x.kind x.topic x.source x.data

/-- A station that has driven the SOF of frame `x` and read it back dominant (R12). -/
def RxFrame.sending (x : RxFrame) : Frame := ((Frame.start .transmitter .sof x.bits).bit .dominant).1

/-- A station that has read the SOF of a peer's frame (R12). -/
def Frame.hearing : Frame := Frame.start .receiver .header []

/-- A station that has read a CALL frame clean to its response window, before the first position (R11, R15). -/
structure Frame.AtWindow (f : Frame) : Prop where
  taking_part : f.stopped = false ∧ f.txCode = none ∧ f.rxCode = none
  first_position : f.elem = .start ∧ f.count = 0 ∧ f.run = 0 ∧ f.responses = []

/-- The station's response byte is legal: its verdict ACCEPT or BUSY, its station not 0 (R208). -/
def Frame.LegalByte (f : Frame) : Prop := f.ownByte.getLsbD 7 = false ∧ f.ownByte.extractLsb' 0 6 ≠ 0

/-- A frame that a station can send: its length is legal for its kind, its source is set, a call tag
names a caller, and a call reference has its spare bits 0 (R5 to R9, R45). -/
structure RxFrame.Sendable (x : RxFrame) : Prop where
  length : legalLength x.kind x.data.length = true
  source : x.source ≠ 0
  tag : x.kind = .done ∨ x.kind = .withdraw → (CallTag.ofTopic x.topic).caller ≠ 0
  reference : x.kind = .call → (x.data.headD 0).extractLsb' 0 2 = 0
  responses : x.responses = []

/-- Priority, kind, topic and source as one number (R5). -/
def RxFrame.arbitrationField (x : RxFrame) : Nat :=
  ((x.priority.toNat * 8 + x.kind.code) * 4096 + x.topic.toNat) * 64 + x.source.toNat

/-! ## Link Controller -/

/-- The station does not follow the line (R24). -/
def State.offBus (s : State) : Prop := s.lc.state = .config ∨ s.lc.state = .offline

/-- Link state, bus phase, line condition and frame fit each other (R22, R24, R28, R29, R33, R66). -/
structure State.LinkInv (s : State) : Prop where
  /-- the phase is OUT exactly in CONFIG and OFFLINE -/
  out_iff : s.lc.phase = .out ↔ s.offBus
  /-- AWAIT is a phase of INTEGRATING -/
  await_integrating : s.lc.phase = .await → s.lc.state = .integrating
  /-- INTEGRATING knows no phase but AWAIT and HOLD -/
  integrating_phase : s.lc.state = .integrating → s.lc.phase = .await ∨ s.lc.phase = .hold
  /-- the line condition is HELD exactly in HOLD -/
  held_iff : s.lc.held = true ↔ s.lc.phase = .hold
  /-- a hold goes back to AWAIT exactly in INTEGRATING -/
  await_hold : s.lc.phase = .hold → (s.lc.holdInAwait = true ↔ s.lc.state = .integrating)
  /-- a frame is in progress exactly in FRAME -/
  frame_iff : s.lc.frame.isSome = true ↔ s.lc.phase = .frame
  /-- a candidate is in flight only in ACTIVE, and not in HOLD -/
  flight_active : s.lc.inFlight.isSome = true → s.lc.state = .active ∧ s.lc.phase ≠ .hold
  /-- the own hold assertion is empty outside ACTIVE -/
  own_hold_active : s.ownHold = true → s.lc.state = .active
  /-- a QUIET period runs exactly in QUIET -/
  quiet_iff : s.lc.quiet.isSome = true ↔ s.lc.state = .quiet
  /-- off the line nothing of the line waits -/
  off_due : s.offBus → s.lc.due = []

/-- A choice is held only where one may be, and of a candidate (R62, R63, R65, R67); the slot in flight is
the one SENDING (R54, R66), a DONE in flight has a FINISHING entry (R122) and a WITHDRAW in flight is owed
(R98); a WITHDRAW is owed only in WITHDRAWING (R97). -/
structure State.ChoiceInv (s : State) : Prop where
  choice_stands : ∀ c, s.lc.choice = some c → s.mayChoose = true ∧ s.isCandidate c.candidate = true
  sending_iff : ∀ i, (s.slot i).state = .sending ↔ s.lc.inFlight = some (.slot i)
  done_flight : ∀ o, s.lc.inFlight = some (.obligation o) → (s.obl o).state = .finishing
  withdraw_flight : ∀ k, s.lc.inFlight = some (.withdraw k) → (s.call k).withdrawPending = true
  withdraw_owed : ∀ k, (s.call k).withdrawPending = true → (s.call k).state = .withdrawing

/-! ## Outbox and Call Unit -/

/-- A slot holds a call entry for its request (R48). -/
def Slot.binds (sl : Slot) : Prop := sl.kind = .call ∧ (sl.state = .pending ∨ sl.state = .sending)

/-- RESERVED entries and CALL slots in PENDING or SENDING are bound one to one (R48). -/
structure State.BindingInv (s : State) : Prop where
  slot_bound : ∀ i, (s.slot i).binds → ∃ k, (s.slot i).call = some (k, (s.call k).generation)
    ∧ (s.call k).state = .reserved ∧ (s.call k).slot = some i
  entry_bound : ∀ k, (s.call k).state = .reserved → ∃ i, (s.call k).slot = some i ∧ (s.slot i).binds
    ∧ (s.slot i).call = some (k, (s.call k).generation)

/-- The rerun and abort marks are set only in SENDING (R49, R51, R55, R59). -/
def State.MarksInv (s : State) : Prop :=
  ∀ i, (s.slot i).rerun = true ∨ (s.slot i).abort = true → (s.slot i).state = .sending

/-- The stations of an entry's account, each as often as it stands in one of the three lists (R86). -/
def CallEntry.account (e : CallEntry) : List Station :=
  e.outstanding ++ e.results.map CallResult.station ++ e.unanswered

/-- Each enrolled station is in exactly one of the outstanding set, the results list and the unanswered
list, and nothing is outstanding unless the entry is OPEN or WITHDRAWING (R84, R86, R89). -/
structure CallEntry.AccountInv (e : CallEntry) : Prop where
  account : List.Perm e.account e.enrolled
  enrolled_ascending : e.enrolled.Pairwise (· < ·)
  unanswered_ascending : e.unanswered.Pairwise (· < ·)
  outstanding_open : e.state ≠ .opened → e.state ≠ .withdrawing → e.outstanding = []
  free_empty : e.state = .free ∨ e.state = .reserved → e.enrolled = []

/-- Every call entry keeps its account. -/
def State.AccountsInv (s : State) : Prop := ∀ k, (s.call k).AccountInv

/-! ## Obligation Unit -/

/-- A RESERVED entry is the one that the verdict of the frame in progress names (R112, R113), and no two
entries that are not FREE hold one call tag (R114). -/
structure State.TagsInv (s : State) : Prop where
  reserved_named : ∀ o, (s.obl o).state = .reserved →
    ∃ placed, s.ou.verdict = some { answer := .reserved o, placed := placed }
  tags_differ : ∀ o p, (s.obl o).state ≠ .free → (s.obl p).state ≠ .free → (s.obl o).tag = (s.obl p).tag →
    o = p

/-! ## Receive Queue -/

/-- At most 16 records, and RX_READY follows the queue (R77, R81). -/
structure State.QueueInv (s : State) : Prop where
  capacity : s.rq.length ≤ 16
  ready_iff : s.flag .rxReady = true ↔ s.rq ≠ []

/-! ## Reaction Engine -/

/-- From JOIN on, an entry is SPENT exactly when its budget is limited and used up (R141). -/
def State.BudgetInv (s : State) : Prop :=
  s.lc.state ≠ .config → ∀ r, (s.run r).remaining ≤ (s.reaction r).budget
    ∧ ((s.run r).arm = .spent ↔ (s.reaction r).budget ≠ 0 ∧ (s.run r).remaining = 0)

/-! ## Timing Unit and Line Unit -/

/-- A running timer's count is below its limit, a stopped timer's count is 0 (R159); an expiry waits only
while the timer runs, at the time step that reaches its limit (R160). -/
structure Timer.Inv (t : Timer) : Prop where
  limit_pos : 0 < t.limit
  running_below : t.running = true → t.count < t.limit
  stopped_zero : t.running = false → t.count = 0
  expiring_reached : t.expiring = true → t.running = true ∧ t.count + 1 = t.limit

/-- The timers, and the limits that the image holds for them (R159, R186). -/
structure State.TimersInv (s : State) : Prop where
  timers : ∀ t, (s.timer t).Inv
  image : ∀ t : Fin 4, 0 < s.image.timers[t].limit

/-- The run fields of a train (R168, R171); an edge waits only while the train runs, at the time step that
ends the part in progress (R169). -/
structure Train.Inv (t : Train) : Prop where
  width_pos : 0 < t.width
  width_below : t.width < t.period
  running_elapsed : t.running = true → t.elapsed < t.partLength
  idle_rest : t.running = false → t.part = .rest ∧ t.elapsed = 0
  mark_active : t.stopMark = true → t.running = true ∧ t.part = .active
  edge_reached : t.edgeDue = true → t.running = true ∧ t.elapsed + 1 = t.partLength

/-- The trains, and the widths that the image holds for them (R168, R186). -/
structure State.TrainsInv (s : State) : Prop where
  trains : ∀ g, (s.train g).Inv
  image : ∀ g : Fin 2, 0 < s.image.trains[g].width

/-- Output lines and the trains that own them: none owned and all low in CONFIG, and from JOIN on each
train owns its line and gives it its level (R176, R178, R180). -/
structure State.OutputsInv (s : State) : Prop where
  config_low : s.lc.state = .config → (∀ k, (s.output k).level = false) ∧ ∀ g, (s.train g).running = false
  owner_iff : s.lc.state ≠ .config → ∀ k g, (s.output k).owner = .train g ↔ (s.train g).line = k
  level_eq : s.lc.state ≠ .config → ∀ g, (s.output (s.train g).line).level
    = ((s.output (s.train g).line).rest != ((s.train g).running && (s.train g).part == .active))

/-! ## Host Port -/

/-- HSO is at high impedance exactly while the port is DESELECTED or the RESET pin is held low; PARAMETERS holds
a code of the table with fewer parameter bytes than it takes; REPLY has bytes left; a RESET command waits for
the rise of HCS only once it has been taken (R193, R195, R197). -/
structure State.PortInv (s : State) : Prop where
  hso_iff : s.hp.hso = none ↔ s.hp.phase = .deselected ∨ s.hp.phase = .inReset
  parameters : ∀ got, s.hp.phase = .parameters got →
    ∃ code ps n, got = code :: ps ∧ paramCount code = some n ∧ ps.length < n
  reply : ∀ left, s.hp.phase = .reply left → left ≠ []
  ordered : s.hp.resetOrdered = true → (∃ left, s.hp.phase = .reply left) ∨ s.hp.phase = .trailing

/-! ## Counts -/

/-- The counts of the Link Controller (R22, R23, R26, R33, R37, R40, R41); one that has reached its end has its
event waiting (log 1). -/
structure LinkController.CountsInv (lc : LinkController) : Prop where
  stats : ∀ c : Stat, lc.stats[c.ix] ≤ 255
  failures : lc.failures ≤ 31
  dominant_run : lc.dominantRun ≤ 16
  integration : lc.integration ≤ 12
  integration_done : lc.phase = .await → lc.integration = 12 → LineEvent.integration ∈ lc.due
  recovery : lc.recovery ≤ 8
  recovery_done : lc.phase = .recovery → lc.recovery = 8 → LineEvent.recoveryGap ∈ lc.due
  hold_end : lc.holdEnd ≤ 12
  hold_end_done : lc.phase = .hold → lc.holdEnd = 12 → LineEvent.holdEnded ∈ lc.due
  persistence : lc.persistence ≤ 2047
  pulse : lc.pulse ≤ 65535
  hold_length : lc.holdLength ≤ 65535
  quiet : ∀ n, lc.quiet = some n → n ≤ 8191
  retry_limit : lc.retryLimit ≤ 15

/-- A slot's counts: attempts pass the highest retry limit only in leaving SENDING (R44, R55). -/
structure Slot.CountsInv (sl : Slot) : Prop where
  losses : sl.losses ≤ 255
  deadline : sl.deadline ≤ 65535
  attempts : sl.attempts ≤ 16
  attempts_asked : sl.state = .pending ∨ sl.state = .sending → sl.attempts ≤ 15

/-- A call entry's counts (R84, R91, R99). -/
structure CallEntry.CountsInv (e : CallEntry) : Prop where
  deadline : e.deadline ≤ 65535
  remaining : e.remaining ≤ 65535
  fraction : e.fraction ≤ 999
  attempts : e.withdrawAttempts ≤ 16
  attempts_owed : e.withdrawPending = true → e.withdrawAttempts ≤ 15

/-- An obligation's attempts (R111, R123). -/
structure Obligation.CountsInv (o : Obligation) : Prop where
  attempts : o.attempts ≤ 16
  attempts_finishing : o.state = .finishing → o.attempts ≤ 15

/-- Every count that saturates or is bounded stays in its range, and so do the image's fields that bound one
(R184): the statistics, the failure count, the dominant run, the integration, recovery, hold-end and
persistence counts, the pulse, the QUIET period, a slot's losses, attempts and deadline, a call's deadline,
remaining, fraction and withdraw attempts, an obligation's attempts and a reaction's fire count. -/
structure State.CountsInv (s : State) : Prop where
  link : s.lc.CountsInv
  image : s.image.station.holdLength ≤ 65535 ∧ s.image.station.retryLimit ≤ 15
  slots : ∀ i, (s.slot i).CountsInv
  calls : ∀ k, (s.call k).CountsInv
  obligations : ∀ o, (s.obl o).CountsInv
  fires : ∀ r, (s.run r).fireCount ≤ 65535

end Sys2Proof.Machine
end

