-- ==== Sys2Proof/Certificates/Slice0/Obligations.lean ====
section
/-! DEFINITION. The statements about this model, for the provers. -/

open Sys2Proof Sys2Proof.Machine

/-! ## The queue, device reset and the host port -/

/-- A step is the command at the front of the queue, carried out on the state with the queue's rest; on an
empty queue the block idles (log 5). -/
def Obligations.StepRunsFrontCommand : Prop :=
  (∀ (c : Instr) (s : State), step { s with pending := c :: s.pending } = exec c s)
  ∧ (∀ (c : Instr) (rest : List Instr) (s : State), s.pending = c :: rest →
      step s = exec c { s with pending := rest })
  ∧ ∀ s : State, s.pending = [] → step s = .next s

/-- No command ends in a fault or a refusal, and none touches the commands that wait. -/
def Obligations.EveryCommandAnswersNext : Prop :=
  ∀ (c : Instr) (s : State), ∃ t : State, exec c s = .next t ∧ t.pending = s.pending

/-- Device reset puts every block at its reset values from any state, and the port, by the levels on RESET and
HCS at that instant, out of use, at DESELECTED, or waiting as in TRAILING; the state after power-on holds the
same values (with both high, log 12; the release of RESET resets too, log 13). -/
def Obligations.DeviceResetSetsEveryResetValue : Prop :=
  State.reset.IsReset
  ∧ State.reset.hp = { phase := .deselected, hso := none, portErrors := 0, resetOrdered := false }
  ∧ State.reset.pending = []
  ∧ ∀ (s : State) (held hcsLow : Bool), ∃ t : State, exec (.deviceReset held hcsLow) s = .next t ∧ t.IsReset
    ∧ t.pending = s.pending
    ∧ (held = true → t.hp = { phase := .inReset, hso := none, portErrors := 0, resetOrdered := false })
    ∧ (held = false → hcsLow = false →
        t.hp = { phase := .deselected, hso := none, portErrors := 0, resetOrdered := false })
    ∧ (held = false → hcsLow = true →
        t.hp = { phase := .trailing, hso := some 0, portErrors := 0, resetOrdered := false })

/-- HCS: a fall begins a transaction, a rise ends one; a rise before the command is taken, after a clock
edge, counts one port error modulo 256; a RESET taken in the transaction takes effect at its rise. HCS is
ignored while the RESET pin is held low. -/
def Obligations.SelectLineBeginsAndEndsTransactions : Prop :=
  (∀ s : State, s.hp.phase = .deselected →
    exec .hcsFall s = .next { s with hp := { s.hp with phase := .command, hso := some 0 } })
  ∧ (∀ s : State, s.hp.phase ≠ .deselected → exec .hcsFall s = .next s)
  ∧ (∀ (s : State) (clocked : Bool), s.hp.phase = .deselected ∨ s.hp.phase = .inReset →
      exec (.hcsRise clocked) s = .next s)
  ∧ (∀ (s : State) (clocked : Bool), s.hp.phase ≠ .deselected → s.hp.phase ≠ .inReset →
      s.hp.resetOrdered = false →
      exec (.hcsRise clocked) s = .next { s with hp := { s.hp with
        phase := .deselected
        hso := none
        portErrors :=
          match s.hp.phase with
          | .command => if clocked then s.hp.portErrors + 1 else s.hp.portErrors
          | .parameters _ => s.hp.portErrors + 1
          | .inReset | .deselected | .reply _ | .trailing => s.hp.portErrors } })
  ∧ ∀ (s : State) (clocked : Bool), s.hp.phase ≠ .deselected → s.hp.phase ≠ .inReset →
      s.hp.resetOrdered = true →
      ∃ t : State, exec (.hcsRise clocked) s = .next t ∧ t.IsReset ∧ t.pending = s.pending
        ∧ t.hp = { phase := .deselected, hso := none, portErrors := 0, resetOrdered := false }

/-- A byte that completes in a transaction moves the port by its phase: the command byte and the parameter bytes
but the last are gathered; the byte that completes a command's bytes takes that command, exactly as its own row
does; a code outside the table is answered UNKNOWN; a reply byte is shifted out, and after the reply the part
shifts out 0. While DESELECTED, or with the RESET pin held low, no byte is taken. -/
def Obligations.BytesGatherTakeAndReply : Prop :=
  (∀ (s : State) (b : Byte) (n : Nat), s.hp.phase = .command → paramCount b = some (n + 1) →
    exec (.byteCompletes b) s = .next { s with hp := { s.hp with phase := .parameters [b], hso := some 0 } })
  ∧ (∀ (s : State) (b code : Byte) (ps : List Byte) (n : Nat), s.hp.phase = .parameters (code :: ps) →
      paramCount code = some n → ps.length + 1 < n →
      exec (.byteCompletes b) s
        = .next { s with hp := { s.hp with phase := .parameters (code :: ps ++ [b]) } })
  ∧ (∀ (c : Instr) (s : State) (b : Byte), s.hp.phase = .command → encodeCommand c = some [b] →
      exec (.byteCompletes b) s = exec c s)
  ∧ (∀ (c : Instr) (s : State) (b : Byte) (got : List Byte), s.hp.phase = .parameters got →
      encodeCommand c = some (got ++ [b]) → exec (.byteCompletes b) s = exec c s)
  ∧ (∀ (s : State) (b : Byte), s.hp.phase = .command → paramCount b = none →
      exec (.byteCompletes b) s
        = .next { s with hp := { s.hp with phase := .reply [0x87, 0, 0], hso := some 0 } })
  ∧ (∀ (s : State) (b x y : Byte) (rest : List Byte), s.hp.phase = .reply (x :: y :: rest) →
      exec (.byteCompletes b) s
        = .next { s with hp := { s.hp with phase := .reply (y :: rest), hso := some x } })
  ∧ (∀ (s : State) (b x : Byte), s.hp.phase = .reply [x] →
      exec (.byteCompletes b) s = .next { s with hp := { s.hp with phase := .trailing, hso := some x } })
  ∧ (∀ (s : State) (b : Byte), s.hp.phase = .trailing →
      exec (.byteCompletes b) s = .next { s with hp := { s.hp with hso := some 0 } })
  ∧ ∀ (s : State) (b : Byte), s.hp.phase = .deselected ∨ s.hp.phase = .inReset →
      exec (.byteCompletes b) s = .next s

/-- Every reply has one frame: the port goes to REPLY with the code of the status, the number of data bytes in
two bytes, most significant first, and the data, HSO at 0 and nothing else of the state changed. A command byte
outside the table is answered UNKNOWN and takes nothing; RESET is answered OK and the part works on unchanged,
the reset being ordered for the rise of HCS. With the RESET pin held low no command is taken. The model's own
convention (log 6): a command row that meets a transaction which cannot become its own stands for the rise of
HCS that ends that one, with its consequences, and the fall that begins another. -/
def Obligations.CommandsHaveTheirOwnTransactions : Prop :=
  (∀ (s : State) (st : Status) (data : List Byte),
    let code : Byte := match st with
      | .ok => 0x80
      | .busy => 0x81
      | .empty => 0x82
      | .state => 0x83
      | .range => 0x84
      | .full => 0x85
      | .configError => 0x86
      | .unknown => 0x87
    s.reply st data = { s with hp := { s.hp with
      phase := .reply ([code] ++ two data.length ++ data), hso := some 0 } })
  ∧ ((∀ (s : State) (code : Byte), paramCount code = none → s.hp.phase.accepts [code] = true →
      exec (.unknownCommand code) s
        = .next { s with hp := { s.hp with phase := .reply [0x87, 0, 0], hso := some 0 } })
    ∧ ∀ s : State, s.ready .reset →
        exec .reset s = .next { s with hp := { s.hp with
          phase := .reply [0x80, 0, 0], hso := some 0, resetOrdered := true } })
  ∧ ((∀ (c : Instr) (s : State), (encodeCommand c).isSome = true → s.hp.phase = .inReset →
      exec c s = .next s)
    ∧ ∀ (code : Byte) (s : State), s.hp.phase = .inReset → exec (.unknownCommand code) s = .next s)
  ∧ ((∀ (c : Instr) (bytes : List Byte) (s : State), encodeCommand c = some bytes →
      s.hp.phase ≠ .inReset → s.hp.phase.accepts bytes = false →
      exec c s = exec c (s.riseHcs true).fallHcs ∧ (s.riseHcs true).fallHcs.ready c)
    ∧ ∀ (code : Byte) (s : State), paramCount code = none → s.hp.phase ≠ .inReset →
      s.hp.phase.accepts [code] = false →
      exec (.unknownCommand code) s = exec (.unknownCommand code) (s.riseHcs true).fallHcs)

/-! ## The configuration image and JOIN -/

/-- LOAD is judged in the order of its rule, and one that is taken replaces the whole entry: the STATION,
MASK, LINE, TIMER, COUNTER and TRAIN entries with every range of their fields, and FILTER and REACTION. -/
def Obligations.LoadIsJudgedAndReplacesTheEntry : Prop :=
  ∀ (s : State) (kind index : Byte) (f : Vector Byte 11), s.ready (.load kind index f) →
    (s.lc.state ≠ .config → exec (.load kind index f) s = .next (s.reply .state []))
    ∧ (s.lc.state = .config → 8 ≤ kind.toNat → exec (.load kind index f) s = .next (s.reply .range []))
    ∧ (∀ n, s.lc.state = .config → entryCount kind = some n → n ≤ index.toNat →
        exec (.load kind index f) s = .next (s.reply .range []))
    ∧ (s.lc.state = .config → kind = 0 → index = 0 →
        ∀ rate, BusRate.ofCode f[1] = some rate → 1 ≤ f[0].toNat → f[0].toNat ≤ 63 → f[2].toNat ≤ 7 →
        f[3].toNat ≤ 15 → 32 ≤ f[4].toNat * 256 + f[5].toNat →
        exec (.load kind index f) s = .next ({ s with image := { s.image with station :=
          { number := BitVec.ofNat 6 f[0].toNat
            rate := rate
            protocolPriority := BitVec.ofNat 3 f[2].toNat
            retryLimit := f[3].toNat
            holdLength := f[4].toNat * 256 + f[5].toNat } } }.reply .ok []))
    ∧ (s.lc.state = .config → kind = 0 → index = 0 →
        BusRate.ofCode f[1] = none ∨ f[0].toNat = 0 ∨ 63 < f[0].toNat ∨ 7 < f[2].toNat ∨ 15 < f[3].toNat
          ∨ f[4].toNat * 256 + f[5].toNat < 32 →
        exec (.load kind index f) s = .next (s.reply .range []))
    ∧ (∀ m : Fin 4, s.lc.state = .config → kind = 1 → index.toNat = m.val →
        let bits := f[0].toNat * 256 + f[1].toNat
        exec (.load kind index f) s = .next (if bits ≤ 0xFFF then
          { s with au := { s.au with masks := s.au.masks.set m (BitVec.ofNat 12 bits) } }.reply .ok []
          else s.reply .range []))
    ∧ (∀ k : Fin 16, s.lc.state = .config → kind = 2 → index.toNat = k.val →
        let x : Filter :=
          { enabled := f[0].toNat == 1
            topic := BitVec.ofNat 12 (f[1].toNat * 256 + f[2].toNat)
            maskIndex := f[3]
            kinds := BitVec.ofNat 4 f[4].toNat
            roles := BitVec.ofNat 3 f[5].toNat }
        exec (.load kind index f) s = .next (
          if f[0].toNat ≤ 1 ∧ f[1].toNat * 256 + f[2].toNat ≤ 4095 ∧ f[4].toNat ≤ 15 ∧ f[5].toNat ≤ 7 then
            { s with au := { s.au with filters := s.au.filters.set k x } }.reply .ok []
          else s.reply .range []))
    ∧ (∀ k : Fin 8, s.lc.state = .config → kind = 3 → index.toNat = k.val → ∀ owner,
        Owner.ofCode f[2] = some owner → f[1].toNat ≤ 1 →
        let x : LineEntry := { settleTime := f[0].toNat, rest := f[1].toNat == 1, owner := owner }
        exec (.load kind index f) s
          = .next ({ s with image := { s.image with lines := s.image.lines.set k x } }.reply .ok []))
    ∧ (∀ k : Fin 8, s.lc.state = .config → kind = 3 → index.toNat = k.val →
        2 < f[2].toNat ∨ 1 < f[1].toNat → exec (.load kind index f) s = .next (s.reply .range []))
    ∧ (∀ t : Fin 4, s.lc.state = .config → kind = 4 → index.toNat = t.val →
        let limit := (f[0].toNat * 256 + f[1].toNat) * 256 + f[2].toNat
        let x : TimerEntry := { limit := limit, mode := if f[3].toNat = 0 then .once else .repeating }
        exec (.load kind index f) s = .next (
          if 1 ≤ limit ∧ f[3].toNat ≤ 1 then
            { s with image := { s.image with timers := s.image.timers.set t x } }.reply .ok []
          else s.reply .range []))
    ∧ (∀ c : Fin 2, s.lc.state = .config → kind = 5 → index.toNat = c.val →
        let compare := (f[2].toNat * 256 + f[3].toNat) * 256 + f[4].toNat
        exec (.load kind index f) s = .next (match CounterEdge.ofCode f[1] with
          | some edge =>
            let x : CounterEntry := { source := f[0], edge := edge, compare := BitVec.ofNat 24 compare }
            { s with image := { s.image with counters := s.image.counters.set c x } }.reply .ok []
          | none => s.reply .range []))
    ∧ (∀ g : Fin 2, s.lc.state = .config → kind = 6 → index.toNat = g.val →
        let period := f[1].toNat * 256 + f[2].toNat
        let width := f[3].toNat * 256 + f[4].toNat
        let x : TrainEntry :=
          { line := f[0]
            period := period
            width := width
            count := BitVec.ofNat 16 (f[5].toNat * 256 + f[6].toNat) }
        exec (.load kind index f) s = .next (
          if 2 ≤ period ∧ 1 ≤ width ∧ width ≤ 65534 then
            { s with image := { s.image with trains := s.image.trains.set g x } }.reply .ok []
          else s.reply .range []))
    ∧ (∀ r : Fin 24, s.lc.state = .config → kind = 7 → index.toNat = r.val →
        exec (.load kind index f) s = .next (
          match TriggerKind.ofCode f[0], GateKind.ofCode f[3], ActionKind.ofCode f[5] with
          | some trigger, some gate, some action =>
            let x : ReactionDef :=
              { trigger := trigger
                selector := f[1]
                qualifier := f[2]
                gate := gate
                gateLine := f[4]
                action := action
                target := f[6]
                parameter := f[7] ++ f[8]
                budget := f[9].toNat
                initialArmed := f[10].toNat == 1 }
            if f[10].toNat ≤ 1 then
              { s with re := { s.re with defs := s.re.defs.set r x } }.reply .ok []
            else s.reply .range []
          | _, _, _ => s.reply .range []))

/-- JOIN outside CONFIG and OFFLINE is refused with STATE. In CONFIG it is refused with CONFIG_ERROR and with the
entry kind, index and reason of the first check that fails, the checks taken in this order: STATION, filters,
LINE and TRAIN ownership, counters, train widths, reactions. The checks all pass exactly when every condition of
their table holds. -/
def Obligations.JoinValidatesTheImage : Prop :=
  (∀ s : State, s.ready .join → s.follows → exec .join s = .next (s.reply .state []))
  ∧ (∀ s : State,
      let check (fails : Bool) (kind : Byte) (index : Nat) (reason : Byte) : List Failure :=
        if fails then [{ kind := kind, index := index, reason := reason }] else []
      let selectors : TriggerKind → Nat
        | .cueMatch | .obligationOpened | .obligationWithdrawn => 16
        | .inputEdge | .slotDone | .callSettled => 8
        | .timerExpire => 4
        | .countMatch | .trainPulse | .trainDone => 2
        | .reactionFired => 24
        | .none | .holdBegin | .holdPersists | .holdEnd => 256
      let qualified : TriggerKind → Bool
        | .inputEdge | .trainDone | .slotDone | .callSettled => true
        | _ => false
      let targets : ActionKind → Nat
        | .send | .outputSet | .outputClear | .outputToggle => 8
        | .timerStart | .timerStop => 4
        | .trainStart | .trainStop | .counterClear => 2
        | .arm | .disarm => 24
        | .finish => 16
        | .holdPulse | .notify => 256
      let checks : List Failure :=
        check (s.image.station.number == 0) 0 0 1
        ++ ((List.finRange 16).flatMap fun f =>
            check (decide (3 < (s.filter f).maskIndex.toNat)) 2 f.val 2
            ++ check ((s.filter f).roles.getLsbD 2 && !(s.filter f).kinds.getLsbD 1) 2 f.val 3)
        ++ ((List.finRange 8).flatMap fun k => (List.finRange 2).flatMap fun g =>
            check (s.image.lines[k].owner == .train g && s.image.trains[g].line.toNat != k.val) 3 k.val 4)
        ++ ((List.finRange 2).flatMap fun g =>
            check (decide (7 < s.image.trains[g].line.toNat)) 6 g.val 5
            ++ check ((List.finRange 8).all fun k =>
              !(s.image.trains[g].line.toNat == k.val && s.image.lines[k].owner == .train g)) 6 g.val 4)
        ++ ((List.finRange 2).flatMap fun c => check (decide (7 < s.image.counters[c].source.toNat)) 5 c.val 5)
        ++ ((List.finRange 2).flatMap fun g =>
            check (decide (s.image.trains[g].period ≤ s.image.trains[g].width)) 6 g.val 6)
        ++ (List.finRange 24).flatMap fun r =>
            let d := s.reaction r
            check (decide (selectors d.trigger ≤ d.selector.toNat)) 7 r.val 7
            ++ check (qualified d.trigger && decide (2 < d.qualifier.toNat)) 7 r.val 8
            ++ check (d.gate != .none && decide (7 < d.gateLine.toNat)) 7 r.val 9
            ++ check (decide (targets d.action ≤ d.target.toNat)) 7 r.val 10
            ++ check (d.action == .finish && (List.finRange 16).any fun f =>
              d.target.toNat == f.val && !(s.filter f).roles.getLsbD 2) 7 r.val 11
      (s.failures = [] ↔ checks = [])
      ∧ ∀ (x : Failure) (l : List Failure), s.ready .join → s.lc.state = .config → checks = x :: l →
          exec .join s = .next (s.reply .configError [x.kind, BitVec.ofNat 8 x.index, x.reason]))
  ∧ ∀ s : State, s.failures = [] ↔
      s.image.station.number ≠ 0
      ∧ (∀ f, (s.filter f).maskIndex.toNat ≤ 3
          ∧ ((s.filter f).roles.getLsbD 2 = true → (s.filter f).kinds.getLsbD 1 = true))
      ∧ (∀ (k : Fin 8) (g : Fin 2), s.image.lines[k].owner = .train g → s.image.trains[g].line.toNat = k.val)
      ∧ (∀ g : Fin 2, ∃ k : Fin 8, s.image.trains[g].line.toNat = k.val ∧ s.image.lines[k].owner = .train g)
      ∧ (∀ c : Fin 2, s.image.counters[c].source.toNat ≤ 7)
      ∧ (∀ g : Fin 2, s.image.trains[g].width < s.image.trains[g].period)
      ∧ ∀ r : Fin 24, let d := s.reaction r
        (∀ n, d.trigger.selectors = some n → d.selector.toNat < n)
        ∧ (d.trigger = .inputEdge ∨ d.trigger = .trainDone ∨ d.trigger = .slotDone ∨ d.trigger = .callSettled →
            d.qualifier.toNat ≤ 2)
        ∧ (d.gate ≠ .none → d.gateLine.toNat ≤ 7)
        ∧ (∀ n, d.action.targets = some n → d.target.toNat < n)
        ∧ (∀ f : Fin 16, d.action = .finish → d.target.toNat = f.val → (s.filter f).roles.getLsbD 2 = true)

/-- A JOIN that is taken: the Link Controller starts integration with the STATION fields; from CONFIG the
image is applied to the Line Unit, the Timing Unit and the Reaction Engine, and nothing else changes; from
OFFLINE nothing but the Link Controller changes. -/
def Obligations.JoinStartsIntegration : Prop :=
  (∀ s : State, s.ready .join → s.lc.state = .offline → exec .join s = .next ({ s with lc := { s.lc with
      station := s.image.station.number
      rate := s.image.station.rate
      protocolPriority := s.image.station.protocolPriority
      retryLimit := s.image.station.retryLimit
      holdLength := s.image.station.holdLength
      state := .integrating
      phase := .await
      integration := 0
      dominantRun := 0
      persistence := 0
      holdEnd := 0
      held := false
      failures := 0
      holdFlag := false
      pulse := 0
      inFlight := none } }.reply .ok []))
  ∧ ∀ s : State, s.ready .join → s.lc.state = .config → s.failures = [] →
    ∃ t : State, exec .join s = .next (t.reply .ok [])
      ∧ t.lc = { s.lc with
          station := s.image.station.number
          rate := s.image.station.rate
          protocolPriority := s.image.station.protocolPriority
          retryLimit := s.image.station.retryLimit
          holdLength := s.image.station.holdLength
          state := .integrating
          phase := .await
          integration := 0
          dominantRun := 0
          persistence := 0
          holdEnd := 0
          held := false
          failures := 0
          holdFlag := false
          pulse := 0
          inFlight := none }
      ∧ (∀ k : Fin 8, t.input k = { s.input k with settleTime := s.image.lines[k].settleTime })
      ∧ (∀ k : Fin 8, t.output k
          = { rest := s.image.lines[k].rest, owner := s.image.lines[k].owner, level := s.image.lines[k].rest })
      ∧ (∀ x : Fin 4, t.timer x
          = { limit := s.image.timers[x].limit, mode := s.image.timers[x].mode, running := false, count := 0,
              expiring := false })
      ∧ (∀ c : Fin 2, (t.counter c).source.val = s.image.counters[c].source.toNat
          ∧ (t.counter c).edge = s.image.counters[c].edge ∧ (t.counter c).compare = s.image.counters[c].compare
          ∧ (t.counter c).count = 0)
      ∧ (∀ g : Fin 2, (t.train g).line.val = s.image.trains[g].line.toNat
          ∧ (t.train g).period = s.image.trains[g].period ∧ (t.train g).width = s.image.trains[g].width
          ∧ (t.train g).count = s.image.trains[g].count ∧ (t.train g).running = false
          ∧ (t.train g).part = .rest ∧ (t.train g).elapsed = 0 ∧ (t.train g).pulses = 0
          ∧ (t.train g).stopMark = false)
      ∧ (∀ r, t.run r
          = { arm := if (s.reaction r).initialArmed then .armed else .disarmed, remaining := (s.reaction r).budget,
              fireCount := 0, firedAt := 0, lastResult := none, lastNotice := 0 })
      ∧ t.re.refusal = none ∧ t.re.chainLimit = none ∧ t.re.notices = 0 ∧ t.re.defs = s.re.defs
      ∧ t.now = s.now ∧ t.outbox = s.outbox ∧ t.au = s.au ∧ t.rq = s.rq ∧ t.cu = s.cu ∧ t.ou = s.ou
      ∧ t.eu = s.eu ∧ t.hp = s.hp ∧ t.image = s.image ∧ t.pending = s.pending

/-! ## The Link Controller's commands -/

/-- LEAVE: the Link Controller leaves the line with no code, every slot in PENDING or SENDING is ABORTED,
every open or withdrawing call is ABANDONED with its outstanding stations unanswered, every reserved entry
and every obligation is FREE. SLOT_DONE, CALL_SETTLED and OBL_NOTE are set, and their detail sets marked, exactly
for these; of the other flags only REACT_LIMIT and REACT_NOTICE may be set, by reactions. What the occurrences so
raised make the reactions do cannot undo it, whatever the free value. The premise is the binding of slots and
entries, an invariant stated on its own. -/
def Obligations.LeaveTakesTheStationOffTheLine : Prop :=
  (∀ s : State, s.ready .leave → s.lc.state = .config ∨ s.lc.state = .offline →
    exec .leave s = .next (s.reply .state []))
  ∧ ∀ s : State, s.ready .leave → s.follows → s.BindingInv → ∃ t : State, exec .leave s = .next t
    ∧ t.lc = { s.lc with
        state := .offline
        phase := .out
        held := false
        holdInAwait := false
        holdFlag := false
        pulse := 0
        failures := 0
        choice := none
        inFlight := none
        frame := none
        dominantRun := 0
        persistence := 0
        holdEnd := 0
        quiet := none
        due := [] }
    ∧ t.hp = { s.hp with phase := .reply [0x80, 0, 0], hso := some 0 }
    ∧ (∀ i, (s.slot i).state = .pending ∨ (s.slot i).state = .sending →
        (t.slot i).state = .aborted ∧ (t.slot i).rerun = false ∧ (t.slot i).abort = false
        ∧ (t.slot i).lastCode = (s.slot i).lastCode ∧ (t.slot i).attempts = (s.slot i).attempts
        ∧ (t.slot i).losses = (s.slot i).losses)
    ∧ (∀ i, (s.slot i).state ≠ .pending → (s.slot i).state ≠ .sending → t.slot i = s.slot i)
    ∧ (∀ k, (s.call k).state = .opened ∨ (s.call k).state = .withdrawing →
        (t.call k).state = .settled ∧ (t.call k).outcome = some .abandoned ∧ (t.call k).settledAt = s.now
        ∧ (t.call k).withdrawPending = false ∧ (t.call k).outstanding = []
        ∧ (∀ x, x ∈ (t.call k).unanswered ↔ x ∈ (s.call k).unanswered ∨ x ∈ (s.call k).outstanding)
        ∧ (t.call k).results = (s.call k).results ∧ (t.call k).withdrawAttempts = (s.call k).withdrawAttempts)
    ∧ (∀ k, (s.call k).state = .reserved → t.call k = CallEntry.freeWith (s.call k).generation)
    ∧ (∀ k, (s.call k).state = .free ∨ (s.call k).state = .settled → t.call k = s.call k)
    ∧ (∀ o, (s.obl o).state ≠ .free → t.obl o = Obligation.free)
    ∧ (∀ o, (s.obl o).state = .free → t.obl o = s.obl o)
    ∧ (t.flag .slotDone = true ↔
        s.flag .slotDone = true ∨ ∃ i, (s.slot i).state = .pending ∨ (s.slot i).state = .sending)
    ∧ (∀ i : Fin 8, t.eu.slotsDone.getLsbD i.val = true ↔
        s.eu.slotsDone.getLsbD i.val = true ∨ (s.slot i).state = .pending ∨ (s.slot i).state = .sending)
    ∧ (t.flag .callSettled = true ↔
        s.flag .callSettled = true ∨ ∃ k, (s.call k).state = .opened ∨ (s.call k).state = .withdrawing)
    ∧ (∀ k : Fin 8, t.eu.callsSettled.getLsbD k.val = true ↔
        s.eu.callsSettled.getLsbD k.val = true ∨ (s.call k).state = .opened ∨ (s.call k).state = .withdrawing)
    ∧ (t.flag .oblNote = true ↔ s.flag .oblNote = true ∨ ∃ o, (s.obl o).state ≠ .free)
    ∧ (∀ o : Fin 8, t.eu.oblsChanged.getLsbD o.val = true ↔
        s.eu.oblsChanged.getLsbD o.val = true ∨ (s.obl o).state ≠ .free)
    ∧ t.eu.oblsOpened = s.eu.oblsOpened ∧ t.eu.enables = s.eu.enables
    ∧ (∀ f : Flag, f ≠ .slotDone → f ≠ .callSettled → f ≠ .oblNote → f ≠ .reactLimit → f ≠ .reactNotice →
        t.flag f = s.flag f)
    ∧ (∀ f : Flag, s.flag f = true → t.flag f = true)
    ∧ t.ou.verdict = none ∧ t.rq = s.rq ∧ t.au = s.au ∧ t.image = s.image ∧ t.now = s.now

/-- HOLD ASSERT in ACTIVE sets the persistent flag, which costs a choice held its permission, and touches
nothing else; elsewhere it is refused with STATE. HOLD RELEASE clears both parts of the own hold in every
link state, and a choice may be made again; an end of the pulse that waits is dropped with it (log 1). -/
def Obligations.HoldCommandsMoveTheOwnHold : Prop :=
  (∀ s : State, s.ready .holdAssert → s.lc.state = .active →
    exec .holdAssert s = .next ({ s with lc := { s.lc with holdFlag := true, choice := none } }.reply .ok []))
  ∧ (∀ s : State, s.ready .holdAssert → s.lc.state ≠ .active →
      exec .holdAssert s = .next (s.reply .state []))
  ∧ ∀ s : State, s.ready .holdRelease →
      exec .holdRelease s = .next ({ s with lc := { s.lc with
        holdFlag := false
        pulse := 0
        due := s.lc.due.filter (· != LineEvent.pulseEnds) } }.arbiter.reply .ok [])

/-- LINK READ returns the twelve bytes of its layout and changes nothing; STATS READ returns the eleven
counters in their order and sets them to 0, BUS_ERROR untouched. Both are taken in every link state. -/
def Obligations.LinkAndStatsReadsReturnTheirValues : Prop :=
  (∀ s : State, s.ready .linkRead → exec .linkRead s = .next (s.reply .ok
    ([s.lc.state.code, boolByte s.lc.held, boolByte s.lc.holdFlag, BitVec.ofNat 8 (s.lc.pulse / 256),
      BitVec.ofNat 8 s.lc.pulse, BitVec.ofNat 8 s.lc.failures, BitVec.ofNat 8 s.rq.length, s.hp.portErrors,
      s.now.extractLsb' 24 8, s.now.extractLsb' 16 8, s.now.extractLsb' 8 8, s.now.extractLsb' 0 8])))
  ∧ ∀ s : State, s.ready .statsRead →
    ∃ t : State, exec .statsRead s = .next (t.reply .ok
        ([.rxCheck, .rxStuff, .rxForm, .txBit, .txStuff, .txForm, .failed, .losses, .overruns, .stray,
          .crowded].map fun c => BitVec.ofNat 8 (s.stat c)))
      ∧ t = { s with lc := { s.lc with stats := t.lc.stats } } ∧ ∀ c, t.stat c = 0

/-! ## The host port's commands: bytes, ranges and reads -/

/-- The bytes of a host command name that command and no other, a code of the table takes as many parameter
bytes as its command sends, and a code with its count of parameter bytes names a command whatever they are. -/
def Obligations.CommandBytesNameTheCommand : Prop :=
  (∀ (c : Instr) (bytes : List Byte), encodeCommand c = some bytes ↔ decodeCommand bytes = some c)
  ∧ (∀ (c : Instr) (code : Byte) (ps : List Byte), encodeCommand c = some (code :: ps) →
      paramCount code = some ps.length)
  ∧ ∀ (code : Byte) (ps : List Byte), paramCount code = some ps.length →
      ∃ c : Instr, encodeCommand c = some (code :: ps)

/-- A command that names a member beyond its table is refused with RANGE before anything else, and so are
an OBL FINISH with more than six result bytes and a TIMER LIMIT of 0. A command that CONFIG holds back is
refused there with STATE. Nothing but the reply changes. The spec gives RANGE first for slots, OBL FINISH and
reactions; for timers, counters, trains and a limit of 0 it is the model's reading (log 20). -/
def Obligations.BadIndexesAndUnjoinedCommandsAreRefused : Prop :=
  (∀ (c : Instr) (b : Byte) (n : Nat) (s : State), Instr.member c = some (b, n) → n ≤ b.toNat → s.ready c →
    exec c s = .next (s.reply .range []))
  ∧ (∀ (b st n : Byte) (bytes : Vector Byte 6) (s : State), s.ready (.oblFinish b st n bytes) → 6 < n.toNat →
      exec (.oblFinish b st n bytes) s = .next (s.reply .range []))
  ∧ (∀ (b : Byte) (s : State), s.ready (.timerLimit b 0) →
      exec (.timerLimit b 0) s = .next (s.reply .range []))
  ∧ (∀ (c : Instr) (b : Byte) (n : Nat) (s : State), Instr.member c = some (b, n) → b.toNat < n →
      Instr.afterJoin c = true → (∀ x : Byte, c ≠ .timerLimit x 0) → s.ready c → s.lc.state = .config →
      exec c s = .next (s.reply .state []))
  ∧ ∀ (lines levels : Byte) (s : State), s.ready (.outputWrite lines levels) → s.lc.state = .config →
      exec (.outputWrite lines levels) s = .next (s.reply .state [])

/-- SLOT READ, OBL READ, TIMER READ, COUNTER READ, TRAIN READ and LINES READ, CALL READ and REACT READ return
every field of their record in the layout of the port, REACT READ the refusal and the chain-limit record with
it, and change nothing. They are taken in every link state. The model's choice: an entry without a result sends
status and count 0 (log 25), an occurrence without a selector sends 0 for it (log 26). -/
def Obligations.ReadsReturnTheRecordAndChangeNothing : Prop :=
  ((∀ (s : State) (b : Byte) (i : Fin 8), s.ready (.slotRead b) → b.toNat = i.val →
      let x := s.slot i
      exec (.slotRead b) s = .next (s.reply .ok (
        [x.state.code, BitVec.ofNat 8 x.priority.toNat, if x.kind = .cue then 0 else 1] ++ two x.topic.toNat
          ++ [BitVec.ofNat 8 x.payload.length] ++ (x.payload ++ List.replicate 8 0).take 8 ++ two x.deadline
          ++ [BitVec.ofNat 8 x.attempts, BitVec.ofNat 8 x.losses, lastCodeByte x.lastCode,
            BitVec.ofNat 8 ((if x.rerun then 1 else 0) + (if x.abort then 2 else 0)
              + (if x.abortTooLate then 4 else 0) + (if x.rerunDropped then 8 else 0))]
          ++ (match x.call with
            | none => [0xFF, 0xFF]
            | some (k, g) => [BitVec.ofNat 8 k.val, BitVec.ofNat 8 g.toNat])
          ++ four x.sentAt)))
    ∧ (∀ (s : State) (b : Byte) (o : Fin 8), s.ready (.oblRead b) → b.toNat = o.val →
        let x := s.obl o
        exec (.oblRead b) s = .next (s.reply .ok (
          [x.state.code, BitVec.ofNat 8 x.tag.caller.toNat, BitVec.ofNat 8 x.tag.index.toNat,
            BitVec.ofNat 8 x.tag.generation.toNat] ++ two x.topic.toNat ++ [BitVec.ofNat 8 x.filter.val]
            ++ four x.openedAt
            ++ (match x.result with
              | none => [0, 0, 0, 0, 0, 0, 0, 0, 0]
              | some (st, bs) => [1, st, BitVec.ofNat 8 bs.length] ++ (bs ++ List.replicate 6 0).take 6)
            ++ [BitVec.ofNat 8 x.attempts, if s.lc.inFlight = some (.obligation o) then 1 else 0])))
    ∧ (∀ (s : State) (b : Byte) (t : Fin 4), s.ready (.timerRead b) → b.toNat = t.val →
        let x := s.timer t
        exec (.timerRead b) s = .next (s.reply .ok (
          three x.limit ++ [if x.mode = .once then 0 else 1, if x.running then 1 else 0] ++ three x.count)))
    ∧ (∀ (s : State) (b : Byte) (c : Fin 2), s.ready (.counterRead b) → b.toNat = c.val →
        let x := s.counter c
        exec (.counterRead b) s = .next (s.reply .ok (
          [BitVec.ofNat 8 x.source.val, x.edge.code] ++ three x.compare.toNat ++ three x.count.toNat)))
    ∧ (∀ (s : State) (b : Byte) (g : Fin 2), s.ready (.trainRead b) → b.toNat = g.val →
        let x := s.train g
        exec (.trainRead b) s = .next (s.reply .ok (
          [BitVec.ofNat 8 x.line.val] ++ two x.period ++ two x.width ++ two x.count.toNat
            ++ [if x.running then 1 else 0, if x.part = .rest then 0 else 1] ++ two x.elapsed
            ++ two x.pulses.toNat ++ [if x.stopMark then 1 else 0])))
    ∧ ∀ s : State, s.ready .linesRead → ∃ inputs outputs : Byte,
        exec .linesRead s = .next (s.reply .ok [inputs, outputs])
        ∧ (∀ k, inputs.getLsbD k.val = (s.input k).level) ∧ ∀ k, outputs.getLsbD k.val = (s.output k).level)
  ∧ ((∀ (s : State) (b : Byte) (k : Fin 8), s.ready (.callRead b) → b.toNat = k.val →
      let e := s.call k
      let stations (l : List Station) : List Byte :=
        BitVec.ofNat 8 l.length :: l.map fun x => BitVec.ofNat 8 x.toNat
      exec (.callRead b) s = .next (s.reply .ok (
        [e.state.code, BitVec.ofNat 8 e.generation.toNat,
          match e.slot with
          | none => 0xFF
          | some i => BitVec.ofNat 8 i.val]
          ++ two e.topic.toNat ++ two e.deadline ++ two e.remaining ++ two e.fraction
          ++ [outcomeByte e.outcome, if e.withdrawPending then 1 else 0, BitVec.ofNat 8 e.withdrawAttempts]
          ++ four e.openedAt ++ four e.settledAt
          ++ stations e.enrolled ++ stations e.busy ++ stations e.outstanding ++ stations e.unanswered
          ++ BitVec.ofNat 8 e.results.length :: e.results.flatMap fun r =>
            [BitVec.ofNat 8 r.station.toNat, r.status, BitVec.ofNat 8 r.bytes.length, if r.late then 1 else 0]
              ++ r.bytes ++ four r.arrivedAt)))
    ∧ ∀ (s : State) (b : Byte) (r : Fin 24), s.ready (.reactRead b) → b.toNat = r.val →
      let d := s.reaction r
      let x := s.run r
      exec (.reactRead b) s = .next (s.reply .ok (
        [d.trigger.code, d.selector, d.qualifier, d.gate.code, d.gateLine, d.action.code, d.target]
          ++ two d.parameter.toNat ++ [BitVec.ofNat 8 d.budget, if d.initialArmed then 1 else 0]
          ++ [x.arm.code, BitVec.ofNat 8 x.remaining] ++ two x.fireCount ++ four x.firedAt
          ++ (match x.lastResult with
            | none => [0, 0]
            | some .done => [1, 0]
            | some (.refused why) => [2, why.code])
          ++ [x.lastNotice]
          ++ (match s.re.refusal with
            | none => [0, 0, 0, 0, 0, 0, 0, 0]
            | some y => [1, BitVec.ofNat 8 y.reaction.val, y.action.code, y.reason.code] ++ four y.stamp)
          ++ match s.re.chainLimit with
            | none => [0, 0, 0, 0, 0, 0, 0, 0, 0, 0, 0, 0]
            | some y =>
              [1, BitVec.ofNat 8 y.reaction.val, y.reached.kind.code,
                BitVec.ofNat 8 (y.reached.selector.getD 0), y.reached.detail]
                ++ (match y.root with
                  | .occurrence o => [o.kind.code, BitVec.ofNat 8 (o.selector.getD 0), o.detail]
                  | .force f => [0xFF, BitVec.ofNat 8 f.val, 0])
                ++ four y.stamp)))

/-- RX READ returns the record count and the head record whole, and changes nothing; RX RELEASE removes the
head, answers the count that remains, and clears RX_READY where none does. On an empty queue both are
refused with EMPTY. Both are taken in every link state. -/
def Obligations.RxReadShowsTheHeadAndRxReleaseRemovesIt : Prop :=
  (∀ s : State, s.ready .rxRead → s.rq = [] → exec .rxRead s = .next (s.reply .empty []))
  ∧ (∀ s : State, s.ready .rxRelease → s.rq = [] → exec .rxRelease s = .next (s.reply .empty []))
  ∧ (∀ (s : State) (r : RxRecord) (rest : List RxRecord), s.ready .rxRead → s.rq = r :: rest →
      exec .rxRead s = .next (s.reply .ok (
        [BitVec.ofNat 8 (rest.length + 1), BitVec.ofNat 8 r.filter.val, BitVec.ofNat 8 r.kind.code,
          BitVec.ofNat 8 r.priority.toNat] ++ two r.topic.toNat
          ++ [BitVec.ofNat 8 r.source.toNat, BitVec.ofNat 8 r.data.length] ++ r.data ++ four r.endedAt
          ++ match r.responses with
            | none => [0xFF]
            | some l => BitVec.ofNat 8 l.length :: l)))
  ∧ ∀ (s : State) (r : RxRecord) (rest : List RxRecord), s.ready .rxRelease → s.rq = r :: rest →
      ∃ t : State, exec .rxRelease s = .next (t.reply .ok [BitVec.ofNat 8 rest.length])
        ∧ t = { s with rq := rest, eu := { s.eu with flags := t.eu.flags } }
        ∧ (∀ f, f ≠ .rxReady → t.flag f = s.flag f)
        ∧ (rest = [] → t.flag .rxReady = false)
        ∧ (rest ≠ [] → t.flag .rxReady = s.flag .rxReady)

/-! ## The Outbox's commands -/

/-- SLOT WRITE: BUSY in PENDING and SENDING; RANGE where a field is out of its range; otherwise the content
is replaced, the slot is LOADED, and every other field of the slot takes its cleared value. -/
def Obligations.SlotWriteReplacesTheContent : Prop :=
  ∀ (s : State) (b priority kind : Byte) (topic deadline : BitVec 16) (length : Byte)
    (payload : Vector Byte 8) (i : Fin 8),
    let c : Instr := .slotWrite b priority kind topic deadline length payload
    s.ready c → b.toNat = i.val →
    ((s.slot i).state = .pending ∨ (s.slot i).state = .sending → exec c s = .next (s.reply .busy []))
    ∧ ((s.slot i).state ≠ .pending → (s.slot i).state ≠ .sending →
        7 < priority.toNat ∨ 1 < kind.toNat ∨ 4095 < topic.toNat ∨ (kind = 0 ∧ 8 < length.toNat)
          ∨ (kind = 1 ∧ 7 < length.toNat) ∨ (kind = 1 ∧ deadline = 0) →
        exec c s = .next (s.reply .range []))
    ∧ ((s.slot i).state ≠ .pending → (s.slot i).state ≠ .sending → priority.toNat ≤ 7 →
        topic.toNat ≤ 4095 → (kind = 0 ∧ length.toNat ≤ 8) ∨ (kind = 1 ∧ length.toNat ≤ 7 ∧ deadline ≠ 0) →
        exec c s = .next ((s.setSlot i
          { state := .loaded
            priority := priority.extractLsb' 0 3
            kind := if kind = 0 then .cue else .call
            topic := topic.extractLsb' 0 12
            payload := payload.toList.take length.toNat
            deadline := if kind = 0 then 0 else deadline.toNat
            attempts := 0
            losses := 0
            lastCode := none
            rerun := false
            abort := false
            abortTooLate := false
            rerunDropped := false
            call := none
            sentAt := 0 }).reply .ok []))

/-- SLOT CLEAR sets a slot in LOADED or a done state to EMPTY with the fields of device reset, is taken
without change in EMPTY, and is refused with BUSY in PENDING and SENDING. -/
def Obligations.SlotClearEmptiesTheSlot : Prop :=
  ∀ (s : State) (b : Byte) (i : Fin 8), s.ready (.slotClear b) → b.toNat = i.val →
    ((s.slot i).state = .loaded ∨ (s.slot i).state = .sent ∨ (s.slot i).state = .failed
        ∨ (s.slot i).state = .aborted →
      exec (.slotClear b) s = .next ((s.setSlot i
        { state := .empty, priority := 0, kind := .cue, topic := 0, payload := [], deadline := 0,
          attempts := 0, losses := 0, lastCode := none, rerun := false, abort := false,
          abortTooLate := false, rerunDropped := false, call := none, sentAt := 0 }).reply .ok []))
    ∧ ((s.slot i).state = .empty → exec (.slotClear b) s = .next (s.reply .ok []))
    ∧ ((s.slot i).state = .pending ∨ (s.slot i).state = .sending →
        exec (.slotClear b) s = .next (s.reply .busy []))

/-- SLOT REQUEST, against the link state and then the slot's state; a new request of a CALL slot reserves
the lowest FREE call entry under its next generation, or is refused with FULL. SLOT ABORT: in PENDING the slot
arrives at ABORTED, a bound entry is released, a choice of the slot is made anew, and the report and its
occurrence follow; in SENDING the abort mark is set and the rerun mark cleared; elsewhere it is refused with
STATE. The premise of an abort in PENDING is an invariant stated on its own: no rerun mark stands outside
SENDING. -/
def Obligations.SlotRequestAndAbortFollowTheSlot : Prop :=
  (∀ (s : State) (b : Byte) (i : Fin 8), s.ready (.slotRequest b) → b.toNat = i.val →
      let x := s.slot i
      let held : List Byte := match x.call with
        | none => [0xFF, 0xFF]
        | some (k, g) => [BitVec.ofNat 8 k.val, BitVec.ofNat 8 g.toNat]
      let asked := x.state = .loaded ∨ x.state = .sent ∨ x.state = .failed ∨ x.state = .aborted
      let requested (call : Option (Fin 8 × BitVec 3)) : Slot :=
        { x with state := .pending, attempts := 0, losses := 0, rerun := false, abortTooLate := false,
                 rerunDropped := false, call := call }
      (s.lc.state = .config ∨ s.lc.state = .offline → exec (.slotRequest b) s = .next (s.reply .state []))
      ∧ (s.follows → x.state = .empty → exec (.slotRequest b) s = .next (s.reply .empty []))
      ∧ (s.follows → x.state = .pending → exec (.slotRequest b) s = .next (s.reply .ok (1 :: held)))
      ∧ (s.follows → x.state = .sending →
          exec (.slotRequest b) s = .next ((s.setSlot i { x with rerun := true }).reply .ok (2 :: held)))
      ∧ (s.follows → asked → x.kind = .cue →
          exec (.slotRequest b) s
            = .next ((s.setSlot i (requested none)).arbiter.reply .ok [0, 0xFF, 0xFF]))
      ∧ (∀ k : Fin 8, s.follows → asked → x.kind = .call → (s.call k).state = .free →
          (∀ j, j < k → (s.call j).state ≠ .free) →
          let g := (s.call k).generation + 1
          let entry : CallEntry :=
            { state := .reserved, generation := g, slot := some i, topic := x.topic, deadline := x.deadline,
              remaining := 0, fraction := 0, enrolled := [], busy := [], outstanding := [], results := [],
              unanswered := [], outcome := none, withdrawPending := false, withdrawAttempts := 0,
              openedAt := 0, settledAt := 0, expiring := false }
          exec (.slotRequest b) s
            = .next (((s.setCall k entry).setSlot i (requested (some (k, g)))).arbiter.reply .ok
              [0, BitVec.ofNat 8 k.val, BitVec.ofNat 8 g.toNat]))
      ∧ (s.follows → asked → x.kind = .call → (∀ k, (s.call k).state ≠ .free) →
          exec (.slotRequest b) s = .next (s.reply .full [])))
  ∧ (∀ (s : State) (b : Byte) (i : Fin 8), s.ready (.slotAbort b) → b.toNat = i.val →
      let x := s.slot i
      (x.state = .empty ∨ x.state = .loaded ∨ x.state = .sent ∨ x.state = .failed ∨ x.state = .aborted →
        exec (.slotAbort b) s = .next (s.reply .state []))
      ∧ (x.state = .sending → exec (.slotAbort b) s
          = .next ((s.setSlot i { x with abort := true, rerun := false }).reply .ok []))
      ∧ (x.state = .pending → x.kind = .cue → s.MarksInv → exec (.slotAbort b) s
          = .next ((((((s.setSlot i { x with state := .aborted }).setFlag .slotDone).addSlotDone
              i).arbiter).reply .ok []).take (.slotDone i .aborted)))
      ∧ ∀ (k : Fin 8) (g : BitVec 3), x.state = .pending → x.kind = .call → x.call = some (k, g) →
          s.MarksInv → exec (.slotAbort b) s
            = .next (((((((s.setCall k (CallEntry.freeWith (s.call k).generation)).setSlot i
                { x with state := .aborted, call := none }).setFlag .slotDone).addSlotDone
                i).arbiter).reply .ok []).take (.slotDone i .aborted)))

/-! ## The commands of the Call Unit and the Obligation Unit -/

/-- CALL WITHDRAW makes an OPEN entry WITHDRAWING with a WITHDRAW owed, its deadline stopped where it
stands; CALL CLEAR frees a SETTLED entry, its generation kept; in every other state they are refused with
STATE. -/
def Obligations.CallWithdrawAndClearFollowTheEntry : Prop :=
  ∀ (s : State) (b : Byte) (k : Fin 8), b.toNat = k.val →
    (s.ready (.callWithdraw b) → (s.call k).state = .opened → exec (.callWithdraw b) s
      = .next ((s.setCall k { s.call k with
          state := .withdrawing, withdrawPending := true, withdrawAttempts := 0, expiring := false
          }).arbiter.reply .ok []))
    ∧ (s.ready (.callWithdraw b) → (s.call k).state ≠ .opened →
        exec (.callWithdraw b) s = .next (s.reply .state []))
    ∧ (s.ready (.callClear b) → (s.call k).state = .settled → exec (.callClear b) s
        = .next ((s.setCall k
          { state := .free, generation := (s.call k).generation, slot := none, topic := 0, deadline := 0,
            remaining := 0, fraction := 0, enrolled := [], busy := [], outstanding := [], results := [],
            unanswered := [], outcome := none, withdrawPending := false, withdrawAttempts := 0,
            openedAt := 0, settledAt := 0, expiring := false }).reply .ok []))
    ∧ (s.ready (.callClear b) → (s.call k).state ≠ .settled →
        exec (.callClear b) s = .next (s.reply .state []))

/-- OBL FINISH gives an OPEN or FAILED entry its report and makes it FINISHING, a DONE candidate at once;
OBL DISCARD frees an entry that is OPEN, FAILED, WITHDRAWN or FINISHING with its DONE not in flight, and is
refused with BUSY while it is in flight; in every other state they are refused with STATE. -/
def Obligations.OblFinishAndDiscardFollowTheEntry : Prop :=
  ∀ (s : State) (b : Byte) (o : Fin 8), b.toNat = o.val →
    (∀ (st n : Byte) (bytes : Vector Byte 6), s.ready (.oblFinish b st n bytes) → n.toNat ≤ 6 →
      (s.obl o).state = .opened ∨ (s.obl o).state = .failed → exec (.oblFinish b st n bytes) s
        = .next ((s.setObl o { s.obl o with
            state := .finishing, result := some (st, bytes.toList.take n.toNat), attempts := 0
            }).arbiter.reply .ok []))
    ∧ (∀ (st n : Byte) (bytes : Vector Byte 6), s.ready (.oblFinish b st n bytes) → n.toNat ≤ 6 →
        (s.obl o).state ≠ .opened → (s.obl o).state ≠ .failed →
        exec (.oblFinish b st n bytes) s = .next (s.reply .state []))
    ∧ (s.ready (.oblDiscard b) → (s.obl o).state = .opened ∨ (s.obl o).state = .failed
          ∨ (s.obl o).state = .withdrawn
          ∨ ((s.obl o).state = .finishing ∧ s.lc.inFlight ≠ some (.obligation o)) →
        exec (.oblDiscard b) s = .next ((s.setObl o
          { state := .free, tag := { caller := 0, index := 0, generation := 0 }, topic := 0, filter := 0,
            openedAt := 0, result := none, attempts := 0 }).arbiter.reply .ok []))
    ∧ (s.ready (.oblDiscard b) → (s.obl o).state = .finishing → s.lc.inFlight = some (.obligation o) →
        exec (.oblDiscard b) s = .next (s.reply .busy []))
    ∧ (s.ready (.oblDiscard b) → (s.obl o).state = .free ∨ (s.obl o).state = .reserved →
        exec (.oblDiscard b) s = .next (s.reply .state []))

/-! ## The Reaction Engine -/

/-- REACT ARM and REACT DISARM, refused with STATE in CONFIG and otherwise taken against the arm state, with
the arm state after the command in the reply; an entry re-armed from SPENT gets its budget back, and one
disarmed keeps what remains. -/
def Obligations.ReactArmAndDisarmMoveTheArmState : Prop :=
  ∀ (s : State) (b : Byte) (r : Fin 24), b.toNat = r.val →
    (s.ready (.reactArm b) → s.lc.state = .config → exec (.reactArm b) s = .next (s.reply .state []))
    ∧ (s.ready (.reactArm b) → s.lc.state ≠ .config → (s.run r).arm = .disarmed → exec (.reactArm b) s
        = .next ((s.setRun r { s.run r with arm := .armed }).reply .ok [1]))
    ∧ (s.ready (.reactArm b) → s.lc.state ≠ .config → (s.run r).arm = .spent → exec (.reactArm b) s
        = .next ((s.setRun r
            { s.run r with arm := .armed, remaining := (s.reaction r).budget }).reply .ok [1]))
    ∧ (s.ready (.reactArm b) → s.lc.state ≠ .config → (s.run r).arm = .armed →
        exec (.reactArm b) s = .next (s.reply .ok [1]))
    ∧ (s.ready (.reactDisarm b) → s.lc.state = .config →
        exec (.reactDisarm b) s = .next (s.reply .state []))
    ∧ (s.ready (.reactDisarm b) → s.lc.state ≠ .config → (s.run r).arm = .armed → exec (.reactDisarm b) s
        = .next ((s.setRun r { s.run r with arm := .disarmed }).reply .ok [0]))
    ∧ (s.ready (.reactDisarm b) → s.lc.state ≠ .config → (s.run r).arm = .disarmed →
        exec (.reactDisarm b) s = .next (s.reply .ok [0]))
    ∧ (s.ready (.reactDisarm b) → s.lc.state ≠ .config → (s.run r).arm = .spent →
        exec (.reactDisarm b) s = .next (s.reply .ok [2]))

/-- A firing performs the action, counts, stamps and keeps the action's result, spends a limited budget and is
SPENT with it, and records a refusal with REACT_LIMIT; it hands on what the action raised. REACT FORCE fires an
ARMED entry whatever its trigger and gate say: its firing, and then its chain from depth 1 with the command as
root, what its action raised at once before its REACTION_FIRED; the reply carries its own action's result. A
DISARMED or SPENT entry, and CONFIG, are refused with STATE. -/
def Obligations.FiringsCountSpendAndReport : Prop :=
  (∀ (s : State) (r : Fin 24),
      let p := s.perform r
      let x := p.state.run r
      let d := s.reaction r
      let fired := p.state.setRun r
        { arm := if d.budget ≠ 0 ∧ x.remaining - 1 = 0 then .spent else x.arm
          remaining := if d.budget = 0 then x.remaining else x.remaining - 1
          fireCount := min (x.fireCount + 1) 65535
          firedAt := s.now
          lastResult := some p.result
          lastNotice := x.lastNotice }
      (s.fire r).result = p.result ∧ (s.fire r).raised = p.raised
      ∧ (p.result = .done → (s.fire r).state = fired)
      ∧ ∀ why, p.result = .refused why → (s.fire r).state = State.setFlag { fired with re := { fired.re with
          refusal := some { reaction := r, action := d.action, reason := why, stamp := s.now } } } .reactLimit)
  ∧ (∀ (s : State) (b : Byte) (r : Fin 24), s.ready (.reactForce b) → b.toNat = r.val →
      (s.lc.state = .config ∨ (s.run r).arm ≠ .armed →
        exec (.reactForce b) s = .next (s.reply .state []))
      ∧ (s.lc.state ≠ .config → (s.run r).arm = .armed →
          let p := s.fire r
          let chain := (p.raised ++ [Occurrence.reactionFired r]).foldl (fun t o => taking 4 (.force r) o t) p.state
          exec (.reactForce b) s = .next (chain.reply .ok (match p.result with
            | .done => [1, 0]
            | .refused why => [2, why.code]))))

/-- An entry is reached by an occurrence exactly when its trigger is of the occurrence's kind, its selector
names the occurrence's, the qualifier admits the edge or outcome, it is ARMED and its gate is satisfied: a HIGH
gate reads its line's settled level, a LOW gate its opposite. An occurrence without an edge or outcome is
admitted whatever the qualifier holds. -/
def Obligations.TriggersAndGatesSelectTheEntries : Prop :=
  (∀ (s : State) (r : Fin 24) (o : Occurrence), s.reached r o = true ↔
    (s.reaction r).trigger = o.kind ∧ (∀ n, o.selector = some n → (s.reaction r).selector.toNat = n)
      ∧ o.admittedBy (s.reaction r).qualifier = true ∧ (s.run r).arm = .armed
      ∧ s.gateOpen (s.reaction r) = true)
  ∧ (∀ (s : State) (d : ReactionDef), d.gate = .none → s.gateOpen d = true)
  ∧ (∀ (s : State) (d : ReactionDef) (k : Fin 8), d.gateLine.toNat = k.val →
      (d.gate = .high → s.gateOpen d = (s.input k).level)
      ∧ (d.gate = .low → s.gateOpen d = !(s.input k).level))
  ∧ (∀ (k : Fin 8) (q : Byte), ((Occurrence.inputEdge k .rise).admittedBy q = true ↔ q = 0 ∨ q = 2)
      ∧ ((Occurrence.inputEdge k .fall).admittedBy q = true ↔ q = 1 ∨ q = 2))
  ∧ (∀ (g : Fin 2) (q : Byte), ((Occurrence.trainDone g .complete).admittedBy q = true ↔ q = 0 ∨ q = 2)
      ∧ ((Occurrence.trainDone g .stopped).admittedBy q = true ↔ q = 1 ∨ q = 2))
  ∧ (∀ (i : Fin 8) (d : DoneState) (q : Byte), (Occurrence.slotDone i d).admittedBy q = true ↔
      (q = 0 ∧ d = .sent) ∨ (q = 1 ∧ d ≠ .sent) ∨ q = 2)
  ∧ (∀ (k : Fin 8) (x : CallOutcome) (q : Byte), (Occurrence.callSettled k x).admittedBy q = true ↔
      (q = 0 ∧ x = .allDone) ∨ (q = 1 ∧ x ≠ .allDone) ∨ q = 2)
  ∧ ∀ (o : Occurrence) (q : Byte), o.kind ≠ .inputEdge → o.kind ≠ .trainDone → o.kind ≠ .slotDone →
      o.kind ≠ .callSettled → o.admittedBy q = true

/-- The actions on timers, trains, outputs, counters, reactions and obligations, and NOTIFY and SEND, do what
their tables say, with DONE or the refusal named, and raise nothing within the firing but TRAIN_STOP's
TRAIN_DONE in a rest part. HOLD_PULSE in ACTIVE sets the pulse remainder to the hold length for parameter 0,
and else to the parameter but at least 32 bt, whatever it stood at; the persistent flag is kept, an end of
the old pulse that waits is dropped (log 1), and a choice held loses its permission; outside ACTIVE it is
refused, and the firing counts and reports like any other. SEND's and FINISH's new candidates are chosen within
the action where a choice may be made (log 9). -/
def Obligations.ActionsDoWhatTheirTablesSay : Prop :=
  (∀ (s : State) (r : Fin 24),
      let d := s.reaction r
      let gives (t : State) (x : ActionResult) (l : List Occurrence) : Prop :=
        s.perform r = { state := t, result := x, raised := l }
      (∀ i : Fin 8, d.action = .send → d.target.toNat = i.val →
        (s.lc.state = .offline → gives s (.refused .linkNotJoined) [])
        ∧ (s.follows → (s.slot i).state = .empty → gives s (.refused .slotEmpty) [])
        ∧ (s.follows → (s.slot i).state = .pending → gives s .done [])
        ∧ (s.follows → (s.slot i).state = .sending →
            gives (s.setSlot i { s.slot i with rerun := true }) .done [])
        ∧ (s.follows → (s.slot i).state ≠ .empty → (s.slot i).state ≠ .pending →
            (s.slot i).state ≠ .sending →
            (∀ t, s.newRequest i = some t → gives t .done [])
            ∧ (s.newRequest i = none → gives s (.refused .noCallEntry) [])))
      ∧ (∀ t : Fin 4, d.action = .timerStart → d.target.toNat = t.val →
          let limit := if d.parameter = 0 then (s.timer t).limit else d.parameter.toNat
          gives (s.setTimer t
            { limit := limit, mode := (s.timer t).mode, running := true, count := 0, expiring := false })
            .done [])
      ∧ (∀ t : Fin 4, d.action = .timerStop → d.target.toNat = t.val →
          gives (s.setTimer t { s.timer t with running := false, count := 0, expiring := false }) .done [])
      ∧ (∀ g : Fin 2, d.action = .trainStart → d.target.toNat = g.val →
          let x := s.train g
          gives ((s.setTrain g
            { x with running := true, part := .rest, elapsed := 0, pulses := 0, stopMark := false,
                     edgeDue := false }).setOutput x.line
              { s.output x.line with level := (s.output x.line).rest }) .done [])
      ∧ (∀ g : Fin 2, d.action = .trainStop → d.target.toNat = g.val →
          let x := s.train g
          (x.running = false → gives s .done [])
          ∧ (x.running = true → x.part = .rest → gives (s.setTrain g
              { x with running := false, part := .rest, elapsed := 0, stopMark := false, edgeDue := false })
              .done [.trainDone g .stopped])
          ∧ (x.running = true → x.part = .active → gives (s.setTrain g { x with stopMark := true }) .done []))
      ∧ (∀ k : Fin 8, d.action = .outputSet ∨ d.action = .outputClear ∨ d.action = .outputToggle →
          d.target.toNat = k.val →
          ((s.output k).owner ≠ .level → gives s (.refused .lineOwnedByTrain) [])
          ∧ ((s.output k).owner = .level →
              let level := match d.action with
                | .outputSet => true
                | .outputClear => false
                | _ => !(s.output k).level
              gives (s.setOutput k { s.output k with level := level }) .done []))
      ∧ (∀ c : Fin 2, d.action = .counterClear → d.target.toNat = c.val →
          gives (s.setCounter c { s.counter c with count := 0 }) .done [])
      ∧ (∀ q : Fin 24, d.action = .arm → d.target.toNat = q.val →
          gives (match (s.run q).arm with
            | .disarmed => s.setRun q { s.run q with arm := .armed }
            | .spent => s.setRun q { s.run q with arm := .armed, remaining := (s.reaction q).budget }
            | .armed => s) .done [])
      ∧ (∀ q : Fin 24, d.action = .disarm → d.target.toNat = q.val →
          gives (if (s.run q).arm = .armed then s.setRun q { s.run q with arm := .disarmed } else s) .done [])
      ∧ (∀ f : Fin 16, d.action = .finish → d.target.toNat = f.val →
          ((∀ o, (s.obl o).state = .opened → (s.obl o).filter ≠ f) →
            gives s (.refused .noOpenObligation) [])
          ∧ ∀ o, (s.obl o).state = .opened → (s.obl o).filter = f →
              (∀ q, (s.obl q).state = .opened → (s.obl q).filter = f →
                (s.now - (s.obl q).openedAt).toNat ≤ (s.now - (s.obl o).openedAt).toNat
                ∧ ((s.now - (s.obl q).openedAt).toNat = (s.now - (s.obl o).openedAt).toNat → o ≤ q)) →
              gives (s.setObl o { s.obl o with
                state := .finishing, result := some (d.parameter.extractLsb' 0 8, []), attempts := 0
                }).arbiter .done [])
      ∧ (d.action = .notify →
          let t := s.setRun r { s.run r with lastNotice := d.parameter.extractLsb' 0 8 }
          gives ({ t with re := { t.re with
            notices := s.re.notices ||| BitVec.ofNat 24 (2 ^ r.val) } }.setFlag .reactNotice) .done []))
  ∧ (∀ (s : State) (r : Fin 24), (s.reaction r).action = .holdPulse →
      (s.lc.state = .active →
        let length := if (s.reaction r).parameter = 0 then s.lc.holdLength
          else if (s.reaction r).parameter.toNat ≤ 31 then 32 else (s.reaction r).parameter.toNat
        s.perform r = { state := (s.setLc { s.lc with
          pulse := length, due := s.lc.due.filter (· != LineEvent.pulseEnds) }).arbiter
                        result := .done
                        raised := [] })
      ∧ (s.lc.state ≠ .active →
          s.perform r = { state := s, result := .refused .linkNotActive, raised := [] }
          ∧ ((s.fire r).state.run r).fireCount = min ((s.run r).fireCount + 1) 65535
          ∧ ((s.fire r).state.run r).lastResult = some (.refused .linkNotActive)))

/-- Outside CONFIG an occurrence is taken from depth 0, with five levels of firings before it and itself as
root. At a depth below 5 the pass goes through the entries in ascending index and fires each one that the
occurrence reaches as the state stands at its turn; each firing adds to the follow-on list what its action
raised and then its REACTION_FIRED; after the pass the members of the list are taken in order at the next depth,
each whole before the next. At depth 5 a pass fires nothing: where an entry would fire, the chain-limit record
names the one with the highest index and REACT_LIMIT is set, and nothing else changes; where none would, nothing
changes. In CONFIG an occurrence is discarded, and at any depth one that reaches no entry changes nothing.
Whatever reactions fire, a taking leaves the line, the ports, the received records, the frames' contents, every
call entry that is not FREE and every obligation that is not OPEN as they were, and clears no flag. -/
def Obligations.TakingsReachOnlyWhatActionsName : Prop :=
  ((∀ (o : Occurrence) (s : State), s.lc.state ≠ .config → s.take o = taking 5 (.occurrence o) o s)
    ∧ ∀ (n : Nat) (root : Root) (o : Occurrence) (s : State),
      ∃ (atTurn : Nat → State) (raised : Nat → List Occurrence), atTurn 0 = s ∧ raised 0 = []
        ∧ (∀ r : Fin 24, (atTurn r.val).reached r o = true →
            atTurn (r.val + 1) = ((atTurn r.val).fire r).state
            ∧ raised (r.val + 1)
              = raised r.val ++ ((atTurn r.val).fire r).raised ++ [Occurrence.reactionFired r])
        ∧ (∀ r : Fin 24, (atTurn r.val).reached r o = false →
            atTurn (r.val + 1) = atTurn r.val ∧ raised (r.val + 1) = raised r.val)
        ∧ taking (n + 1) root o s = (raised 24).foldl (fun t x => taking n root x t) (atTurn 24))
  ∧ ((∀ (root : Root) (o : Occurrence) (s : State) (r : Fin 24), s.reached r o = true →
      (∀ q, r < q → s.reached q o = false) →
      taking 0 root o s = State.setFlag { s with re := { s.re with
        chainLimit := some { reaction := r, reached := o, root := root, stamp := s.now } } } .reactLimit)
    ∧ (∀ (n : Nat) (root : Root) (o : Occurrence) (s : State), (∀ r, s.reached r o = false) →
        taking n root o s = s)
    ∧ ∀ (o : Occurrence) (s : State), s.lc.state = .config → s.take o = s)
  ∧ (∀ (s : State) (o : Occurrence), s.SameBesidesActions (s.take o))

/-! ## The commands of the Timing Unit and the Line Unit -/

/-- TIMER START and TIMER STOP, from either state, with the state and count in the reply; TIMER LIMIT
replaces the limit, and a RUNNING timer at or above it expires in the same event. A time step that waits
with an expiry and does not reach the new limit is counted and expires nothing (log 15). COUNTER CLEAR sets
the count to 0 and raises nothing, even where the compare value is 0. An edge of a counter's source line that
its edge field admits counts one, modulo 2^24, and COUNT_MATCH is handed on exactly where the count then
equals the compare value; in CONFIG, and on other lines and edges, nothing counts. -/
def Obligations.TimerAndCounterCommandsDoTheirEffect : Prop :=
  (∀ (s : State) (b : Byte) (t : Fin 4), b.toNat = t.val → s.lc.state ≠ .config →
      (s.ready (.timerStart b) → exec (.timerStart b) s
        = .next ((s.setTimer t { s.timer t with running := true, count := 0, expiring := false }).reply .ok
          [1, 0, 0, 0]))
      ∧ (s.ready (.timerStop b) → exec (.timerStop b) s
          = .next ((s.setTimer t { s.timer t with running := false, count := 0, expiring := false }).reply .ok
            [0, 0, 0, 0]))
      ∧ ∀ limit : BitVec 24, s.ready (.timerLimit b limit) → limit ≠ 0 →
          ((s.timer t).running = false → (s.timer t).expiring = false → exec (.timerLimit b limit) s
            = .next ((s.setTimer t { s.timer t with limit := limit.toNat }).reply .ok []))
          ∧ ((s.timer t).running = true → (s.timer t).count < limit.toNat → (s.timer t).expiring = false →
              exec (.timerLimit b limit) s
                = .next ((s.setTimer t { s.timer t with limit := limit.toNat }).reply .ok []))
          ∧ ((s.timer t).running = true → limit.toNat ≤ (s.timer t).count →
              exec (.timerLimit b limit) s = .next (((s.setTimer t
                { limit := limit.toNat
                  mode := (s.timer t).mode
                  running := if (s.timer t).mode = .once then false else true
                  count := 0
                  expiring := false }).reply .ok []).take (.timerExpire t)))
          ∧ ((s.timer t).expiring = true → (s.timer t).count + 1 < limit.toNat →
              exec (.timerLimit b limit) s = .next ((s.setTimer t { s.timer t with
                limit := limit.toNat, count := (s.timer t).count + 1, expiring := false }).reply .ok []))
          ∧ ((s.timer t).expiring = true → (s.timer t).count + 1 = limit.toNat →
              exec (.timerLimit b limit) s
                = .next ((s.setTimer t { s.timer t with limit := limit.toNat }).reply .ok [])))
  ∧ ((∀ (s : State) (b : Byte) (c : Fin 2), s.ready (.counterClear b) → b.toNat = c.val →
      s.lc.state ≠ .config → exec (.counterClear b) s
        = .next ((s.setCounter c { s.counter c with count := 0 }).reply .ok []))
    ∧ ∀ (s : State) (c : Fin 2) (k : Fin 8) (e : Edge),
      let x := s.counter c
      let admitted := x.edge = .both ∨ (x.edge = .rise ∧ e = .rise) ∨ (x.edge = .fall ∧ e = .fall)
      (s.lc.state ≠ .config → x.source = k → admitted →
        s.countEdge c k e = (s.setCounter c { x with count := x.count + 1 },
          if x.count + 1 = x.compare then [.countMatch c] else []))
      ∧ (s.lc.state = .config ∨ x.source ≠ k ∨ ¬ admitted → s.countEdge c k e = (s, [])))

/-- TRAIN START starts an IDLE train and restarts a RUNNING one: pulse number 0, a rest part from 0, no stop
mark, its line at the rest level at once, and no occurrence. TRAIN STOP makes a train in its rest part IDLE
with TRAIN_DONE(STOPPED), marks one in its active part, and leaves an IDLE one; the pulse number is kept. -/
def Obligations.TrainCommandsStartAndStop : Prop :=
  ∀ (s : State) (b : Byte) (g : Fin 2), b.toNat = g.val → s.lc.state ≠ .config →
    let x := s.train g
    (s.ready (.trainStart b) → exec (.trainStart b) s = .next (((s.setTrain g
        { x with running := true, part := .rest, elapsed := 0, pulses := 0, stopMark := false,
                 edgeDue := false }).setOutput x.line
          { s.output x.line with level := (s.output x.line).rest }).reply .ok [1, 0, 0]))
    ∧ (s.ready (.trainStop b) → x.running = false →
        exec (.trainStop b) s = .next (s.reply .ok (0 :: two x.pulses.toNat)))
    ∧ (s.ready (.trainStop b) → x.running = true → x.part = .rest → exec (.trainStop b) s
        = .next (((s.setTrain g
          { x with running := false, part := .rest, elapsed := 0, stopMark := false, edgeDue := false
            }).reply .ok (0 :: two x.pulses.toNat)).take (.trainDone g .stopped)))
    ∧ (s.ready (.trainStop b) → x.running = true → x.part = .active → exec (.trainStop b) s
        = .next ((s.setTrain g { x with stopMark := true }).reply .ok (1 :: two x.pulses.toNat)))

/-- OUTPUT WRITE is refused with RANGE, no line changed, where a train owns a named line; otherwise every
named line takes its level, the others keep theirs, nothing else changes, and the reply carries the levels
after the write. -/
def Obligations.OutputWriteSetsTheNamedLines : Prop :=
  ∀ (s : State) (lines levels : Byte), s.ready (.outputWrite lines levels) → s.lc.state ≠ .config →
    (∀ k : Fin 8, lines.getLsbD k.val = true → (s.output k).owner ≠ .level →
      exec (.outputWrite lines levels) s = .next (s.reply .range []))
    ∧ ((∀ k : Fin 8, lines.getLsbD k.val = true → (s.output k).owner = .level) →
        ∃ (t : State) (b : Byte), exec (.outputWrite lines levels) s = .next (t.reply .ok [b])
          ∧ t = { s with lu := { s.lu with outputs := t.lu.outputs } }
          ∧ (∀ k, t.output k = if lines.getLsbD k.val then
              { s.output k with level := levels.getLsbD k.val } else s.output k)
          ∧ ∀ k, b.getLsbD k.val = (t.output k).level)

/-! ## The Event Unit's commands -/

/-- FLAGS READ returns the flags and the enables and clears every flag but RX_READY; ENABLE WRITE replaces
all twelve enables, or is refused with RANGE where a bit beyond them is set. INT is low exactly while a flag
is set and enabled. INDEX READ returns the position of the highest-priority flag that is set and enabled, or
0, and clears nothing. DETAIL READ returns the set it names and empties it, and clears no flag; a selector
above 5 is refused with RANGE. -/
def Obligations.EventUnitCommandsReportAndClear : Prop :=
  ((∀ s : State, s.ready .flagsRead → ∃ t : State,
      exec .flagsRead s = .next (t.reply .ok (two s.eu.flags.toNat ++ two s.eu.enables.toNat))
      ∧ t = { s with eu := { s.eu with flags := t.eu.flags } }
      ∧ t.flag .rxReady = s.flag .rxReady ∧ ∀ f, f ≠ .rxReady → t.flag f = false)
    ∧ (∀ (s : State) (enables : BitVec 16), s.ready (.enableWrite enables) → 0xFFF < enables.toNat →
        exec (.enableWrite enables) s = .next (s.reply .range []))
    ∧ (∀ (s : State) (enables : BitVec 16), s.ready (.enableWrite enables) → enables.toNat ≤ 0xFFF →
        exec (.enableWrite enables) s = .next ({ s with eu := { s.eu with
          enables := enables.extractLsb' 0 12 } }.reply .ok (two enables.toNat)))
    ∧ ∀ s : State, s.intLow = true ↔ ∃ f, s.flag f = true ∧ s.eu.enables.getLsbD f.ix.val = true)
  ∧ ((∀ (s : State) (p : Fin 12), s.ready .indexRead → s.eu.flags.getLsbD p.val = true →
      s.eu.enables.getLsbD p.val = true →
      (∀ q : Fin 12, q < p → s.eu.flags.getLsbD q.val = false ∨ s.eu.enables.getLsbD q.val = false) →
      exec .indexRead s = .next (s.reply .ok [BitVec.ofNat 8 (p.val + 1)]))
    ∧ (∀ s : State, s.ready .indexRead →
        (∀ q : Fin 12, s.eu.flags.getLsbD q.val = false ∨ s.eu.enables.getLsbD q.val = false) →
        exec .indexRead s = .next (s.reply .ok [0]))
    ∧ (∀ s : State, s.ready (.detailRead 0) → exec (.detailRead 0) s
        = .next ({ s with eu := { s.eu with slotsDone := 0 } }.reply .ok [s.eu.slotsDone]))
    ∧ (∀ s : State, s.ready (.detailRead 1) → exec (.detailRead 1) s
        = .next ({ s with eu := { s.eu with callsSettled := 0 } }.reply .ok [s.eu.callsSettled]))
    ∧ (∀ s : State, s.ready (.detailRead 2) → exec (.detailRead 2) s
        = .next ({ s with eu := { s.eu with oblsOpened := 0 } }.reply .ok [s.eu.oblsOpened]))
    ∧ (∀ s : State, s.ready (.detailRead 3) → exec (.detailRead 3) s
        = .next ({ s with eu := { s.eu with oblsChanged := 0 } }.reply .ok [s.eu.oblsChanged]))
    ∧ (∀ s : State, s.ready (.detailRead 4) → exec (.detailRead 4) s
        = .next ({ s with re := { s.re with notices := 0 } }.reply .ok (three s.re.notices.toNat)))
    ∧ (∀ s : State, s.ready (.detailRead 5) → exec (.detailRead 5) s
        = .next ({ s with au := { s.au with matchSet := 0 } }.reply .ok (two s.au.matchSet.toNat)))
    ∧ ∀ (s : State) (b : Byte), s.ready (.detailRead b) → 5 < b.toNat →
        exec (.detailRead b) s = .next (s.reply .range []))

/-! ## Events of the line -/

/-- PEER_SOF, where one waits on an idle bus: the choice is cancelled and the station receives the frame.
SOF_DRIVEN, where a choice stands and nothing of the last bit waits: the candidate is in flight, its slot
SENDING, and the frame is built from its owner as it then stands; otherwise nothing changes (log 2). -/
def Obligations.SofsBeginFrames : Prop :=
  (∀ s : State, LineEvent.peerSof ∈ s.lc.due → s.lc.phase = .idle → exec .peerSof s = .next (s.setLc
    { s.lc with due := s.lc.due.erase .peerSof, choice := none, phase := .frame, frame := some Frame.hearing }))
  ∧ (∀ (s : State) (c : Choice), s.lc.choice = some c → s.lc.due = [] → s.lc.state = .active →
      s.lc.held = false → s.lc.holdFlag = false → s.lc.pulse = 0 → s.lc.phase = .idle →
      s.lc.inFlight = none →
      let sent (bits : List Bool) : LinkController :=
        { s.lc with
          choice := none
          inFlight := some c.candidate
          phase := .frame
          frame := some (Frame.start .transmitter .sof bits) }
      (∀ i, c.candidate = .slot i → (s.slot i).kind = .cue → exec .sofDriven s
        = .next ((s.setSlot i { s.slot i with state := .sending }).setLc (sent (frameBits
          (s.slot i).priority .cue (s.slot i).topic s.lc.station (s.slot i).payload))))
      ∧ (∀ i k g, c.candidate = .slot i → (s.slot i).kind = .call → (s.slot i).call = some (k, g) →
          exec .sofDriven s
            = .next ((s.setSlot i { s.slot i with state := .sending }).setLc (sent (frameBits
              (s.slot i).priority .call (s.slot i).topic s.lc.station
              ((BitVec.ofNat 3 k.val ++ g ++ 0#2) :: (s.slot i).payload)))))
      ∧ (∀ o st bs, c.candidate = .obligation o → (s.obl o).result = some (st, bs) → exec .sofDriven s
          = .next (s.setLc (sent (frameBits s.lc.protocolPriority .done
            ((s.obl o).tag.caller ++ (s.obl o).tag.index ++ (s.obl o).tag.generation) s.lc.station
            (st :: bs)))))
      ∧ (∀ k, c.candidate = .withdraw k → exec .sofDriven s = .next (s.setLc (sent (frameBits
          s.lc.protocolPriority .withdraw (s.lc.station ++ BitVec.ofNat 3 k.val ++ (s.call k).generation)
          s.lc.station [])))))
  ∧ ∀ s : State, s.lc.choice = none ∨ s.lc.due ≠ [] ∨ s.lc.state ≠ .active ∨ s.lc.held = true
      ∨ s.lc.holdFlag = true ∨ s.lc.pulse ≠ 0 ∨ s.lc.phase ≠ .idle ∨ s.lc.inFlight ≠ none →
      exec .sofDriven s = .next s

/-- EOD_POINT of a CALL frame received clean by a station with transmit permission and an enrolling filter takes
the verdict and makes the station a responder with it: ACCEPT on the entry that holds the tag OPEN, FINISHING or
FAILED; ACCEPT on the lowest FREE entry, reserved under the tag, a WITHDRAWN entry of the same tag giving way
with its report; BUSY where none is FREE. Where a condition fails nothing but the event changes. That it is
asked once in a frame, so not where a verdict record stands, is the model's own condition and no item of R112's
list (log 20; no run reaches it). -/
def Obligations.EodPointTakesTheVerdict : Prop :=
  ∀ (s : State) (f : Frame), LineEvent.eodPoint ∈ s.lc.due → s.lc.phase = .frame → s.lc.frame = some f →
    let topic := topicOf f.bits
    let reference := (dataOf f.bits (lengthOf f.bits)).headD 0
    let tag : CallTag :=
      { caller := sourceOf f.bits
        index := reference.extractLsb' 5 3
        generation := reference.extractLsb' 2 3 }
    let holds (o : Fin 8) : Prop := (s.obl o).tag = tag ∧
      ((s.obl o).state = .opened ∨ (s.obl o).state = .finishing ∨ (s.obl o).state = .failed)
    let asked := f.role = .receiver ∧ f.lost = false ∧ f.stopped = false ∧ s.permission = true
      ∧ s.ou.verdict = none
    let answering (busy : Bool) : LinkController :=
      { s.lc with
        due := s.lc.due.erase .eodPoint
        frame := some { f with
          responder := .competing
          ownByte := (if busy then 1#2 else 0#2) ++ s.lc.station } }
    (¬ asked ∨ s.enrollingFilter topic = none →
      exec .eodPoint s = .next (s.setLc { s.lc with due := s.lc.due.erase .eodPoint }))
    ∧ (∀ flt o, asked → s.enrollingFilter topic = some flt → holds o → (∀ p, p < o → ¬ holds p) →
        exec .eodPoint s = .next ((s.setVerdict (some { answer := .reused o, placed := false })).setLc
          (answering false)))
    ∧ (∀ flt o, asked → s.enrollingFilter topic = some flt → (∀ p, ¬ holds p) →
        (s.obl o).state = .free → (∀ p, p < o → (s.obl p).state ≠ .free) →
        let reserved : Obligation :=
          { state := .reserved, tag := tag, topic := topic, filter := flt, openedAt := 0, result := none,
            attempts := 0 }
        ((∀ w, (s.obl w).state = .withdrawn → (s.obl w).tag ≠ tag) →
          exec .eodPoint s = .next (((s.setObl o reserved).setVerdict
            (some { answer := .reserved o, placed := false })).setLc (answering false)))
        ∧ ∀ w, (s.obl w).state = .withdrawn → (s.obl w).tag = tag →
            (∀ p, p < w → (s.obl p).state = .withdrawn → (s.obl p).tag ≠ tag) →
            exec .eodPoint s = .next ((((((s.setObl w
              { state := .free, tag := { caller := 0, index := 0, generation := 0 }, topic := 0, filter := 0,
                openedAt := 0, result := none, attempts := 0 }).addOblChanged w).setFlag .oblNote).setObl o
              reserved).setVerdict (some { answer := .reserved o, placed := false })).setLc (answering false)))
    ∧ (∀ flt, asked → s.enrollingFilter topic = some flt → (∀ p, ¬ holds p) →
        (∀ p, (s.obl p).state ≠ .free) →
        exec .eodPoint s = .next ((s.setVerdict (some { answer := .busy, placed := false })).setLc
          (answering true)))

/-- PLACED notes the placement and changes no entry. CROWDED releases a new reservation alone, counts, and
sets OBL_NOTE with no detail bit. RECEIVE_ERROR counts the code, releases a new reservation, ends the
verdict record, discards the frame and begins recovery. -/
def Obligations.WindowEventsAndReceiveErrors : Prop :=
  (∀ (s : State) (v : Verdict), LineEvent.placed ∈ s.lc.due → s.lc.phase = .frame → s.ou.verdict = some v →
    exec .placed s = .next ((s.setLc { s.lc with due := s.lc.due.erase .placed }).setVerdict
      (some { v with placed := true })))
  ∧ (∀ s : State, LineEvent.crowded ∈ s.lc.due → s.lc.phase = .frame →
      ∃ t : State, exec .crowded s = .next t
        ∧ t.lc = { s.lc with due := s.lc.due.erase .crowded, stats := t.lc.stats }
        ∧ t.stat .crowded = min (s.stat .crowded + 1) 255 ∧ (∀ c, c ≠ .crowded → t.stat c = s.stat c)
        ∧ t.flag .oblNote = true ∧ t.flag .busError = true
        ∧ (∀ f, f ≠ .oblNote → f ≠ .busError → t.flag f = s.flag f)
        ∧ t.eu = { s.eu with flags := t.eu.flags } ∧ t.ou.verdict = s.ou.verdict
        ∧ (∀ o, t.obl o = if (∃ b, s.ou.verdict = some { answer := .reserved o, placed := b })
            ∧ (s.obl o).state = .reserved then
            { state := .free, tag := { caller := 0, index := 0, generation := 0 }, topic := 0, filter := 0,
              openedAt := 0, result := none, attempts := 0 } else s.obl o)
        ∧ t = { s with lc := t.lc, ou := t.ou, eu := t.eu })
  ∧ ∀ (s : State) (c : RxCode), s.lc.due.find? LineEvent.isReceive = some (.receiveError c) →
      s.lc.phase = .frame → ∃ t : State, exec .receiveError s = .next t
        ∧ t.lc = { s.lc with
            due := s.lc.due.erase (.receiveError c)
            stats := t.lc.stats
            phase := .recovery
            recovery := 0
            frame := none }
        ∧ (let counter := match c with
            | .check => Stat.rxCheck
            | .stuff => .rxStuff
            | .form => .rxForm
          t.stat counter = min (s.stat counter + 1) 255 ∧ ∀ x, x ≠ counter → t.stat x = s.stat x)
        ∧ t.flag .busError = true ∧ (∀ f, f ≠ .busError → t.flag f = s.flag f)
        ∧ t.eu = { s.eu with flags := t.eu.flags } ∧ t.ou.verdict = none
        ∧ (∀ o, t.obl o = if (∃ b, s.ou.verdict = some { answer := .reserved o, placed := b })
            ∧ (s.obl o).state = .reserved then
            { state := .free, tag := { caller := 0, index := 0, generation := 0 }, topic := 0, filter := 0,
              openedAt := 0, result := none, attempts := 0 } else s.obl o)
        ∧ t = { s with lc := t.lc, ou := t.ou, eu := t.eu }

/-- FRAME_END of a frame received: the bus is idle, and the frame goes, as read, to the Acceptance Unit, to the
unit that it concerns (the Obligation Unit where a verdict record stands, which ends there, then for a DONE of
one of this station's calls or a WITHDRAW) and then to the arbiter's choice, in an order the spec leaves open
(log 4). Where no entry is bound to any occurrence the order makes no difference: the frame is matched, the
obligation opens, the DONE or the WITHDRAW arrives and the arbiter chooses. -/
def Obligations.FrameEndHandsTheFrameOn : Prop :=
  ∀ (s : State) (f : Frame), LineEvent.frameEnd ∈ s.lc.due → s.lc.phase = .frame → s.lc.inFlight = none →
    s.lc.frame = some f →
    let x : RxFrame :=
      { priority := priorityOf f.bits
        kind := (kindOf f.bits).getD .cue
        topic := topicOf f.bits
        source := sourceOf f.bits
        data := dataOf f.bits (lengthOf f.bits)
        responses := f.responses }
    let idle := s.setLc { s.lc with due := s.lc.due.erase .frameEnd, phase := .idle, frame := none }
    ∀ opening arrival : List Task,
      (s.ou.verdict = none → opening = [])
      → (s.ou.verdict ≠ none → opening = [.openObligation])
      → (x.kind = .cue ∨ x.kind = .call → arrival = [])
      → (x.kind = .done → arrival = if x.topic.extractLsb' 6 6 = s.lc.station then [.doneArrival x] else [])
      → (x.kind = .withdraw → arrival = [.withdrawArrival x])
      → exec .frameEnd s = .next (idle.settleTasks [[.matchFrame x], opening ++ arrival, [.choose]]).ripen
        ∧ ((∀ o : Occurrence, s.bound o = false) →
            let matched := (idle.matchFrame x).1
            let opened := if s.ou.verdict = none then matched else matched.openObligation.1
            let arrived := match x.kind with
              | .cue | .call => opened
              | .done => if x.topic.extractLsb' 6 6 = s.lc.station then (opened.doneArrival x).1 else opened
              | .withdraw => (opened.withdrawArrival x).1
            exec .frameEnd s = .next arrived.arbiter.ripen)

/-- A filter matches a frame when it is enabled, its kinds hold the frame's, and it agrees with the topic
field wherever its mask compares; the enrolling filter is the lowest-index enabled ENROL filter that matches
the topic as a CALL. A frame that none matches leaves no trace; otherwise every matching filter enters the
match set, one record naming the lowest of them is queued if any has QUEUE, or lost and counted at a full
queue, and CUE_MATCH is handed on for each TRIGGER filter in ascending index. -/
def Obligations.FiltersMatchRecordAndReport : Prop :=
  ((∀ (s : State) (f : Fin 16) (m : Fin 4) (kind : FrameKind) (topic : Topic),
      (s.filter f).maskIndex.toNat = m.val →
      (s.filterMatches kind topic f = true ↔ (s.filter f).enabled = true
        ∧ (s.filter f).kinds.getLsbD kind.code = true
        ∧ ∀ b : Nat, b < 12 → s.au.masks[m].getLsbD b = true →
          topic.getLsbD b = (s.filter f).topic.getLsbD b))
    ∧ (∀ (s : State) (topic : Topic) (f : Fin 16), s.enrollingFilter topic = some f ↔
        (s.filterMatches .call topic f = true ∧ (s.filter f).roles.getLsbD 2 = true)
        ∧ ∀ g, g < f → ¬ (s.filterMatches .call topic g = true ∧ (s.filter g).roles.getLsbD 2 = true))
    ∧ ∀ (s : State) (topic : Topic), s.enrollingFilter topic = none ↔
        ∀ g, ¬ (s.filterMatches .call topic g = true ∧ (s.filter g).roles.getLsbD 2 = true))
  ∧ (∀ (s : State) (x : RxFrame),
      ((∀ f, s.filterMatches x.kind x.topic f = false) → s.matchFrame x = (s, []))
      ∧ ∀ r : Fin 16, s.filterMatches x.kind x.topic r = true →
          (∀ g, g < r → s.filterMatches x.kind x.topic g = false) →
          let t := (s.matchFrame x).1
          let record : RxRecord :=
            { filter := r
              kind := x.kind
              priority := x.priority
              topic := x.topic
              source := x.source
              data := x.data
              endedAt := s.now
              responses := if x.kind = .call then some x.responses else none }
          let queued := ∃ f, s.filterMatches x.kind x.topic f = true ∧ (s.filter f).roles.getLsbD 0 = true
          (s.matchFrame x).2 = ((List.finRange 16).filter fun f =>
            s.filterMatches x.kind x.topic f && (s.filter f).roles.getLsbD 1).map .cueMatch
          ∧ (∀ f : Fin 16, t.au.matchSet.getLsbD f.val
              = (s.au.matchSet.getLsbD f.val || s.filterMatches x.kind x.topic f))
          ∧ t.au = { s.au with matchSet := t.au.matchSet }
          ∧ (¬ queued → t = { s with au := t.au })
          ∧ (queued → s.rq.length < 16 → t = { s with au := t.au, rq := s.rq ++ [record], eu := t.eu }
              ∧ t.eu = { s.eu with flags := t.eu.flags } ∧ t.flag .rxReady = true
              ∧ ∀ f, f ≠ .rxReady → t.flag f = s.flag f)
          ∧ (queued → 16 ≤ s.rq.length → t = { s with au := t.au, lc := t.lc, eu := t.eu }
              ∧ t.lc = { s.lc with stats := t.lc.stats } ∧ t.stat .overruns = min (s.stat .overruns + 1) 255
              ∧ (∀ c, c ≠ .overruns → t.stat c = s.stat c) ∧ t.eu = { s.eu with flags := t.eu.flags }
              ∧ t.flag .rxOverrun = true ∧ t.flag .busError = true
              ∧ ∀ f, f ≠ .rxOverrun → f ≠ .busError → t.flag f = s.flag f))

/-- A DONE arrival is collected, late or stray, judged against the entry that its tag names: collected from
an outstanding station of a live entry, settling it ALL_DONE with the last; late from an unanswered station
of one settled otherwise; and every other stray, with its counter and CALL_NOTE and no entry changed. A
WITHDRAW arrival makes the entry that holds its tag OPEN, FAILED or FINISHING not in flight WITHDRAWN, with
its report, its choice cancelled and OBLIGATION_WITHDRAWN handed on; one that no such entry holds changes
nothing. The end of a frame with a verdict record opens a reservation that was placed, with its report and
OBLIGATION_OPENED, and no other entry; the record ends. That one not placed is released there is the model's own
reading and no row of R118's table (log 20; no run reaches it). -/
def Obligations.ArrivalsChangeCallsAndObligations : Prop :=
  (∀ (s : State) (x : RxFrame) (k : Fin 8), (x.topic.extractLsb' 3 3).toNat = k.val →
      let e := s.call k
      let result (late : Bool) : CallResult :=
        { station := x.source, status := x.data.headD 0, bytes := x.data.tail, late := late, arrivedAt := s.now }
      let collected := e.generation = x.topic.extractLsb' 0 3 ∧ (e.state = .opened ∨ e.state = .withdrawing)
        ∧ x.source ∈ e.outstanding
      let late := e.generation = x.topic.extractLsb' 0 3 ∧ e.state = .settled
        ∧ (e.outcome = some .expired ∨ e.outcome = some .withdrawn ∨ e.outcome = some .withdrawFailed
          ∨ e.outcome = some .abandoned) ∧ x.source ∈ e.unanswered
      (collected → e.outstanding.erase x.source ≠ [] → s.doneArrival x = (s.setCall k { e with
        results := e.results ++ [result false], outstanding := e.outstanding.erase x.source }, []))
      ∧ (collected → e.outstanding.erase x.source = [] → s.doneArrival x = (((((s.setCall k { e with
          results := e.results ++ [result false]
          outstanding := []
          state := .settled
          outcome := some .allDone
          settledAt := s.now
          withdrawPending := false
          expiring := false }).setFlag .callSettled).addCallSettled k).arbiter), [.callSettled k .allDone]))
      ∧ (late → s.doneArrival x = ((s.setCall k { e with
          results := e.results ++ [result true], unanswered := e.unanswered.erase x.source }).setFlag
          .callNote, []))
      ∧ (¬ collected → ¬ late → s.doneArrival x = ((s.countStat .stray).setFlag .callNote, [])))
  ∧ ((∀ (s : State) (x : RxFrame),
      let tag : CallTag :=
        { caller := x.topic.extractLsb' 6 6
          index := x.topic.extractLsb' 3 3
          generation := x.topic.extractLsb' 0 3 }
      let holds (o : Fin 8) : Prop := (s.obl o).tag = tag
        ∧ ((s.obl o).state = .opened ∨ (s.obl o).state = .finishing ∨ (s.obl o).state = .failed)
      ((∀ o, ¬ holds o) → s.withdrawArrival x = (s, []))
      ∧ ∀ o, holds o → (∀ p, p < o → ¬ holds p) → s.lc.inFlight ≠ some (.obligation o) →
          s.withdrawArrival x
            = ((((s.setObl o { s.obl o with state := .withdrawn }).addOblChanged o).setFlag .oblNote).arbiter,
              [.obligationWithdrawn (s.obl o).filter]))
    ∧ (∀ (s : State) (o : Fin 8), s.ou.verdict = some { answer := .reserved o, placed := true } →
        ((s.obl o).state = .reserved → s.openObligation
          = ((((s.setObl o { s.obl o with state := .opened, openedAt := s.now }).setFlag .oblOpened).addOblOpened
            o).setVerdict none, [.obligationOpened (s.obl o).filter]))
        ∧ ((s.obl o).state ≠ .reserved → s.openObligation = (s.setVerdict none, [])))
    ∧ (∀ (s : State) (o : Fin 8), s.ou.verdict = some { answer := .reserved o, placed := false } →
        ((s.obl o).state = .reserved → s.openObligation = ((s.setObl o
          { state := .free, tag := { caller := 0, index := 0, generation := 0 }, topic := 0, filter := 0,
            openedAt := 0, result := none, attempts := 0 }).setVerdict none, []))
        ∧ ((s.obl o).state ≠ .reserved → s.openObligation = (s.setVerdict none, [])))
    ∧ ∀ s : State, (∀ o b, s.ou.verdict ≠ some { answer := .reserved o, placed := b }) →
        s.openObligation = (s.setVerdict none, []))

/-- ATTEMPT_SETTLED: the code goes to the owner of the candidate in flight, which is then in flight no more; the
counters and the failure count move; what the owner hands on and the arbiter's choice follow, in an order the
spec leaves open (log 4); where no entry is bound to any occurrence, the choice alone. At the Link Controller OK
clears the failure count and the bus is idle; BIT, STUFF and FORM begin recovery, count two statistics and one
failure, and at 31 failures lead to QUIET with the own hold cleared and LINK_NOTE; LOST counts one statistic;
HOLD changes nothing. -/
def Obligations.SettledCodesReachOwnerAndCounts : Prop :=
  (∀ (s : State) (c : TxCode) (x : Candidate), s.lc.due.find? LineEvent.isAttempt = some (.attemptSettled c) →
      s.lc.inFlight = some x →
      let responses := match s.lc.frame with
        | some f => f.responses
        | none => []
      let free := s.setLc { s.lc with due := s.lc.due.erase (.attemptSettled c), inFlight := none }
      let p := match x with
        | .slot i => free.slotOutcome i c responses
        | .obligation o => (free.doneOutcome o c, [])
        | .withdraw k => free.withdrawOutcome k c
      let settled := (p.1.countAttempt c).afterAttempt c
      exec .attemptSettled s = .next (settled.settleTasks (separately p.2 ++ [[.choose]])).ripen
      ∧ ((∀ o : Occurrence, s.bound o = false) → exec .attemptSettled s = .next settled.arbiter.ripen))
  ∧ ((∀ s : State, s.countAttempt .ok = s ∧ s.countAttempt .hold = s)
    ∧ (∀ s : State, s.countAttempt .lost = s.countStat .losses
        ∧ s.countAttempt .bit = (s.countStat .txBit).countStat .failed
        ∧ s.countAttempt .stuff = (s.countStat .txStuff).countStat .failed
        ∧ s.countAttempt .form = (s.countStat .txForm).countStat .failed)
    ∧ (∀ (s : State) (c d : Stat), (s.countStat c).stat d = (if d = c then min (s.stat c + 1) 255 else s.stat d)
        ∧ (s.countStat c).flag .busError = true)
    ∧ (∀ s : State, s.afterAttempt .ok = s.setLc { s.lc with failures := 0, phase := .idle, frame := none })
    ∧ (∀ s : State, s.afterAttempt .lost = s ∧ s.afterAttempt .hold = s)
    ∧ (∀ (s : State) (c : TxCode), c = .bit ∨ c = .stuff ∨ c = .form → s.lc.failures < 31 →
        s.afterAttempt c = s.setLc { s.lc with
          failures := s.lc.failures + 1, phase := .recovery, recovery := 0, frame := none })
    ∧ ∀ (s : State) (c : TxCode), c = .bit ∨ c = .stuff ∨ c = .form → 31 ≤ s.lc.failures →
        s.afterAttempt c = (s.setLc { s.lc with
          state := .quiet
          failures := 0
          phase := .recovery
          recovery := 0
          frame := none
          holdFlag := false
          pulse := 0
          quiet := some 0
          due := s.lc.due.filter (· != LineEvent.pulseEnds) }).setFlag .linkNote)

/-- What a slot becomes on its settled code, without and with the abort mark; an arrival at a done state
reports, ends the binding of a CALL slot (SENT opens or settles the call, otherwise the entry is released) and
hands SLOT_DONE on; a set rerun mark then makes a new request, which for a CALL slot reserves the lowest entry
then FREE, or is dropped with CALL_NOTE where none is. What a FINISHING obligation becomes on its DONE's code
and a WITHDRAWING call on its WITHDRAW's: OK frees the one and settles the other WITHDRAWN, LOST and HOLD leave
both candidates, and BIT, STUFF and FORM count an attempt, FAILED or WITHDRAW_FAILED beyond the retry limit.
That an attempt with the abort mark set counts nowhere is the model's choice (log 23). -/
def Obligations.OwnersFollowTheirOutcomeTables : Prop :=
  (∀ (s : State) (i : Fin 8) (responses : List Byte),
      let x := s.slot i
      let back (y : Slot) : State × List Occurrence :=
        ((s.setSlot i { y with state := .pending, rerun := false, abort := false }).arbiter, [])
      let error (c : TxCode) := c = .bit ∨ c = .stuff ∨ c = .form
      (∀ c, x.abort = false → c = .lost → s.slotOutcome i c responses
        = back { x with lastCode := some .lost, losses := min (x.losses + 1) 255 })
      ∧ (∀ c, x.abort = false → c = .hold → s.slotOutcome i c responses
          = back { x with lastCode := some .hold })
      ∧ (∀ c, x.abort = false → error c → x.attempts + 1 ≤ s.lc.retryLimit → s.slotOutcome i c responses
          = back { x with lastCode := some c, attempts := x.attempts + 1 })
      ∧ (∀ c, x.abort = false → error c → s.lc.retryLimit < x.attempts + 1 → s.slotOutcome i c responses
          = (s.setSlot i { x with lastCode := some c, attempts := x.attempts + 1 }).arriveDone i .failed [])
      ∧ (∀ c, x.abort = true → c ≠ .ok → s.slotOutcome i c responses
          = (s.setSlot i { x with lastCode := some c, abort := false }).arriveDone i .aborted [])
      ∧ (s.slotOutcome i .ok responses = (s.setSlot i { x with
          lastCode := some .ok
          abort := false
          abortTooLate := x.abort || x.abortTooLate
          sentAt := s.now }).arriveDone i .sent responses)
      ∧ (∀ d, x.kind = .cue → x.rerun = false → s.arriveDone i d responses
          = (((s.setSlot i { x with state := d.slotState }).setFlag .slotDone).addSlotDone i, [.slotDone i d]))
      ∧ (∀ d, x.kind = .cue → x.rerun = true → s.arriveDone i d responses
          = ((((s.setSlot i { x with
              state := .pending, attempts := 0, losses := 0, rerun := false, abortTooLate := false,
              rerunDropped := false, call := none }).setFlag .slotDone).addSlotDone i).arbiter,
            [.slotDone i d]))
      ∧ (∀ (d : DoneState) k g, x.kind = .call → x.call = some (k, g) → x.rerun = false → d ≠ .sent →
          s.arriveDone i d responses = ((((s.setCall k (CallEntry.freeWith (s.call k).generation)).setSlot i
            { x with state := d.slotState, call := none }).setFlag .slotDone).addSlotDone i, [.slotDone i d]))
      ∧ (∀ k g, x.kind = .call → x.call = some (k, g) → x.rerun = false →
          let done := ((s.setSlot i { x with state := .sent }).setFlag .slotDone).addSlotDone i
          s.arriveDone i .sent responses
            = ((done.openCall k responses).1, (done.openCall k responses).2 ++ [.slotDone i .sent]))
      ∧ (∀ k g, x.kind = .call → x.call = some (k, g) → x.rerun = true → (∀ j, (s.call j).state ≠ .free) →
          let done := ((s.setSlot i { x with state := .sent }).setFlag .slotDone).addSlotDone i
          s.arriveDone i .sent responses
            = (((done.openCall k responses).1.setSlot i
                { x with state := .sent, rerun := false, rerunDropped := true }).setFlag .callNote,
              (done.openCall k responses).2 ++ [.slotDone i .sent]))
      ∧ (let again (u : State) (j : Fin 8) : State :=
          let g := (u.call j).generation + 1
          ((u.setCall j
            { state := .reserved, generation := g, slot := some i, topic := x.topic, deadline := x.deadline,
              remaining := 0, fraction := 0, enrolled := [], busy := [], outstanding := [], results := [],
              unanswered := [], outcome := none, withdrawPending := false, withdrawAttempts := 0,
              openedAt := 0, settledAt := 0, expiring := false }).setSlot i
            { x with
              state := .pending, attempts := 0, losses := 0, rerun := false, abortTooLate := false,
              rerunDropped := false, call := some (j, g) }).arbiter
        let lowest (u : State) (j : Fin 8) : Prop :=
          (u.call j).state = .free ∧ ∀ m, m < j → (u.call m).state ≠ .free
        (∀ k g j, x.kind = .call → x.call = some (k, g) → x.rerun = true →
          let done := ((s.setSlot i { x with state := .sent }).setFlag .slotDone).addSlotDone i
          lowest (done.openCall k responses).1 j →
          s.arriveDone i .sent responses
            = (again (done.openCall k responses).1 j, (done.openCall k responses).2 ++ [.slotDone i .sent]))
        ∧ ∀ (d : DoneState) k g j, x.kind = .call → x.call = some (k, g) → x.rerun = true → d ≠ .sent →
          let released := (((s.setCall k (CallEntry.freeWith (s.call k).generation)).setSlot i
            { x with state := d.slotState, call := none }).setFlag .slotDone).addSlotDone i
          lowest released j → s.arriveDone i d responses = (again released j, [.slotDone i d])))
  ∧ (∀ (s : State) (o k : Fin 8) (c : TxCode),
      let x := s.obl o
      let e := s.call k
      let error := c = .bit ∨ c = .stuff ∨ c = .form
      (c = .ok → s.doneOutcome o c = ((s.setObl o
        { state := .free, tag := { caller := 0, index := 0, generation := 0 }, topic := 0, filter := 0,
          openedAt := 0, result := none, attempts := 0 }).addOblChanged o).setFlag .oblNote)
      ∧ (c = .lost ∨ c = .hold → s.doneOutcome o c = s ∧ s.withdrawOutcome k c = (s, []))
      ∧ (error → x.attempts + 1 ≤ s.lc.retryLimit →
          s.doneOutcome o c = s.setObl o { x with attempts := x.attempts + 1 })
      ∧ (error → s.lc.retryLimit < x.attempts + 1 → s.doneOutcome o c
          = ((s.setObl o { x with state := .failed, attempts := x.attempts + 1 }).addOblChanged o).setFlag
            .oblNote)
      ∧ (c = .ok → s.withdrawOutcome k c = (s.settleCall k .withdrawn, [.callSettled k .withdrawn]))
      ∧ (error → e.withdrawAttempts + 1 ≤ s.lc.retryLimit → s.withdrawOutcome k c
          = (s.setCall k { e with withdrawAttempts := e.withdrawAttempts + 1 }, []))
      ∧ (error → s.lc.retryLimit < e.withdrawAttempts + 1 → s.withdrawOutcome k c
          = ((s.setCall k { e with withdrawAttempts := e.withdrawAttempts + 1 }).settleCall k .withdrawFailed,
            [.callSettled k .withdrawFailed])))

/-- RECOVERY_GAP_COMPLETES makes the bus idle; INTEGRATION_COMPLETES makes the link ACTIVE on an idle bus
with LINK_NOTE; the arbiter then chooses. QUIET_PERIOD_ENDS returns to INTEGRATING with LINK_NOTE, in AWAIT,
or in HOLD where the line is held; a frame in progress is discarded, and of what waits from the same sample
the events of the hold stand (log 18). -/
def Obligations.RecoveryIntegrationAndQuietEnd : Prop :=
  (∀ s : State, LineEvent.recoveryGap ∈ s.lc.due → s.lc.phase = .recovery → exec .recoveryGapCompletes s
    = .next (s.setLc { s.lc with due := s.lc.due.erase .recoveryGap, phase := .idle }).arbiter.ripen)
  ∧ (∀ s : State, LineEvent.integration ∈ s.lc.due → s.lc.state = .integrating → s.lc.phase = .await →
      exec .integrationCompletes s = .next ((s.setLc { s.lc with
        due := s.lc.due.erase .integration
        state := .active
        phase := .idle
        integration := 0 }).setFlag .linkNote).arbiter.ripen)
  ∧ ∀ s : State, LineEvent.quietEnds ∈ s.lc.due → s.lc.state = .quiet → exec .quietPeriodEnds s
      = .next ((s.setLc { s.lc with
        due := (s.lc.due.erase .quietEnds).filter fun e =>
          e == .holdDetected || e == .persistenceMark || e == .holdEnded
        state := .integrating
        quiet := none
        integration := 0
        frame := none
        phase := if s.lc.phase = .hold then .hold else .await
        holdInAwait := s.lc.phase == .hold }).setFlag .linkNote)

/-- HOLD_DETECTED settles a frame in flight as HOLD with its owner, breaks a window, holds the line and raises
HOLD_BEGIN; PERSISTENCE_MARK and HOLD_ENDED raise theirs, all with HOLD_NOTE; after the hold the bus is idle, or
awaits in INTEGRATING. PULSE_ENDS empties the pulse, and the arbiter chooses where permission returns. The
model's readings: HOLD_NOTE is set before the occurrence is taken, though R29 lists it after (log 14); the
owner's SLOT_DONE and HOLD_BEGIN, and HOLD_END and the arbiter's choice, follow in an order the spec leaves open
(log 4). Where no entry is bound to any occurrence, nothing follows HOLD_DETECTED, and the choice alone follows
HOLD_ENDED. -/
def Obligations.HoldEventsMoveTheLine : Prop :=
  (∀ s : State, LineEvent.holdDetected ∈ s.lc.due → s.lc.phase ≠ .hold → s.lc.phase ≠ .out →
    let waiting := s.setLc { s.lc with due := s.lc.due.erase .holdDetected }
    let p := match s.lc.inFlight with
      | some c => waiting.handOutcome c .hold []
      | none => (waiting, [])
    let broken := p.1.releaseVerdict.setVerdict none
    let begun := (broken.setLc { broken.lc with
      choice := none
      frame := none
      holdInAwait := s.lc.phase == .await
      phase := .hold
      persistence := 0
      holdEnd := 0
      held := true }).setFlag .holdNote
    exec .holdDetected s = .next (begun.settleTasks (separately p.2 ++ [[.take .holdBegin]]))
    ∧ ((∀ o : Occurrence, s.bound o = false) → exec .holdDetected s = .next begun))
  ∧ (∀ s : State, LineEvent.persistenceMark ∈ s.lc.due → s.lc.phase = .hold → exec .persistenceMark s
      = .next (((s.setLc { s.lc with due := s.lc.due.erase .persistenceMark }).setFlag .holdNote).take
        .holdPersists))
  ∧ (∀ s : State, LineEvent.holdEnded ∈ s.lc.due → s.lc.phase = .hold →
      let ended := (s.setLc { s.lc with
        due := s.lc.due.erase .holdEnded
        held := false
        phase := if s.lc.holdInAwait then .await else .idle
        holdInAwait := false
        integration := 0
        dominantRun := 0
        persistence := 0
        holdEnd := 0 }).setFlag .holdNote
      exec .holdEnded s = .next (ended.settleTasks [[.take .holdEnd], [.choose]]).ripen
      ∧ ((∀ o : Occurrence, s.bound o = false) → exec .holdEnded s = .next ended.arbiter.ripen))
  ∧ ∀ s : State, LineEvent.pulseEnds ∈ s.lc.due → s.lc.pulse ≠ 0 → exec .pulseEnds s
      = .next (s.setLc { s.lc with due := s.lc.due.erase .pulseEnds, pulse := 0 }).arbiter.ripen

/-- The model's own convention (log 2): a row whose event does not wait changes nothing, and one that waits
where its rule's condition no longer holds only stops waiting. -/
def Obligations.RowsNotDueChangeNothing : Prop :=
  (∀ (s : State) (c : Instr) (e : LineEvent), e ∉ s.lc.due →
    (c, e) ∈ [(Instr.peerSof, LineEvent.peerSof), (.eodPoint, .eodPoint), (.placed, .placed),
      (.crowded, .crowded), (.frameEnd, .frameEnd), (.recoveryGapCompletes, .recoveryGap),
      (.integrationCompletes, .integration), (.quietPeriodEnds, .quietEnds), (.holdDetected, .holdDetected),
      (.persistenceMark, .persistenceMark), (.holdEnded, .holdEnded), (.pulseEnds, .pulseEnds)] →
    exec c s = .next s)
  ∧ (∀ s : State, (∀ c, LineEvent.attemptSettled c ∉ s.lc.due) → exec .attemptSettled s = .next s)
  ∧ (∀ s : State, (∀ c, LineEvent.receiveError c ∉ s.lc.due) → exec .receiveError s = .next s)
  ∧ (∀ (s : State) (k : Fin 8), (s.call k).expiring = false ∨ (s.call k).state ≠ .opened →
      exec (.deadlineExpiry k) s = .next s)
  ∧ (∀ (s : State) (t : Fin 4), (s.timer t).expiring = false → exec (.timerExpire t) s = .next s)
  ∧ (∀ (s : State) (g : Fin 2), (s.train g).edgeDue = false ∨ (s.train g).running = false
      ∨ (s.train g).part = .active → exec (.leadingEdge g) s = .next s)
  ∧ (∀ (s : State) (g : Fin 2), (s.train g).edgeDue = false ∨ (s.train g).running = false
      ∨ (s.train g).part = .rest → exec (.trailingEdge g) s = .next s)
  ∧ (∀ (s : State) (k : Fin 8), (s.input k).edgeDue = false → exec (.inputEdge k) s = .next s)
  ∧ ∀ (s : State) (e : LineEvent), e ∈ s.lc.due → s.lc.permits e = false →
      s.carryFirst (· == e) = s.setLc { s.lc with due := s.lc.due.erase e }

/-! ## Time and samples -/

/-- TIME_STEP, once what still waits is carried out (log 3): the time base and every running timer and train
count one, an OPEN call counts one on a CLEAR line (log 24), and every input is sampled; what reaches its end waits
as its own event (log 1), and nothing else changes. Where nothing waits, nothing is carried out. -/
def Obligations.TimeStepCountsOneMicrosecond : Prop :=
  (∀ s : State, s.Rested → s.settleDue = s)
  ∧ ∀ (s : State) (inputs : Byte), let u := s.settleDue
    ∃ t : State, exec (.timeStep inputs) s = .next t ∧ t.now = u.now + 1
      ∧ (∀ x, (u.timer x).running = false → t.timer x = u.timer x)
      ∧ (∀ x, (u.timer x).running = true → (u.timer x).count + 1 < (u.timer x).limit →
          t.timer x = { u.timer x with count := (u.timer x).count + 1 })
      ∧ (∀ x, (u.timer x).running = true → (u.timer x).limit ≤ (u.timer x).count + 1 →
          t.timer x = { u.timer x with expiring := true })
      ∧ (∀ g, (u.train g).running = false → t.train g = u.train g)
      ∧ (∀ g, (u.train g).running = true →
          let length := if (u.train g).part = .rest then (u.train g).period - (u.train g).width
            else (u.train g).width
          t.train g = if (u.train g).elapsed + 1 < length then
            { u.train g with elapsed := (u.train g).elapsed + 1 } else { u.train g with edgeDue := true })
      ∧ (∀ k, u.lc.held = true ∨ (u.call k).state ≠ .opened → t.call k = u.call k)
      ∧ (∀ k, u.lc.held = false → (u.call k).state = .opened →
          t.call k = if (u.call k).fraction + 1 < 1000 then
              { u.call k with fraction := (u.call k).fraction + 1 }
            else if 1 < (u.call k).remaining then
              { u.call k with fraction := 0, remaining := (u.call k).remaining - 1 }
            else { u.call k with expiring := true })
      ∧ (∀ k, inputs.getLsbD k.val = (u.input k).level →
          t.input k = { u.input k with settling := none })
      ∧ (∀ k, inputs.getLsbD k.val ≠ (u.input k).level → (u.input k).settling = none →
          t.input k = { u.input k with settling := some 0, edgeDue := (u.input k).settleTime == 0 })
      ∧ (∀ k n, inputs.getLsbD k.val ≠ (u.input k).level → (u.input k).settling = some n →
          t.input k = { u.input k with
            settling := some (n + 1), edgeDue := decide ((u.input k).settleTime ≤ n + 1) })
      ∧ t = { u with tu := t.tu, cu := t.cu, lu := t.lu }
      ∧ t.tu.counters = u.tu.counters ∧ t.lu.outputs = u.lu.outputs

/-- DEADLINE_EXPIRY settles the OPEN entry EXPIRED, its outstanding stations unanswered; TIMER_EXPIRE stops
or restarts the timer by its mode; LEADING_EDGE and TRAILING_EDGE move the train and its line, the run
ending COMPLETE at its count, STOPPED at a stop mark; each then has its occurrence taken. -/
def Obligations.TimedEventsHappenWhereDue : Prop :=
  (∀ (s : State) (k : Fin 8), (s.call k).expiring = true → (s.call k).state = .opened →
    exec (.deadlineExpiry k) s = .next (((((s.setCall k { s.call k with
      remaining := 0
      fraction := 0
      state := .settled
      outcome := some .expired
      settledAt := s.now
      withdrawPending := false
      expiring := false
      outstanding := []
      unanswered := (s.call k).outstanding.foldl (fun l x => insertStation x l) (s.call k).unanswered
      }).setFlag .callSettled).addCallSettled k).arbiter).take (.callSettled k .expired)))
  ∧ (∀ (s : State) (t : Fin 4), (s.timer t).expiring = true → exec (.timerExpire t) s
      = .next ((s.setTimer t { s.timer t with
        running := if (s.timer t).mode = .once then false else true
        count := 0
        expiring := false }).take (.timerExpire t)))
  ∧ (∀ (s : State) (g : Fin 2), let x := s.train g
      x.edgeDue = true → x.running = true → x.part = .rest → exec (.leadingEdge g) s
        = .next (((s.setTrain g { x with
          part := .active, elapsed := 0, pulses := x.pulses + 1, edgeDue := false }).setOutput x.line
            { s.output x.line with level := !(s.output x.line).rest }).take (.trainPulse g)))
  ∧ ∀ (s : State) (g : Fin 2), let x := s.train g
      let atRest (y : Train) : State := (s.setTrain g { y with
        part := .rest, elapsed := 0, edgeDue := false }).setOutput x.line
          { s.output x.line with level := (s.output x.line).rest }
      let complete := x.count ≠ 0 ∧ x.pulses = x.count
      x.edgeDue = true → x.running = true → x.part = .active →
        (complete → exec (.trailingEdge g) s
          = .next ((atRest { x with running := false, stopMark := false }).take (.trainDone g .complete)))
        ∧ (¬ complete → x.stopMark = true → exec (.trailingEdge g) s
            = .next ((atRest { x with running := false, stopMark := false }).take (.trainDone g .stopped)))
        ∧ (¬ complete → x.stopMark = false → exec (.trailingEdge g) s = .next (atRest x))

/-- INPUT_EDGE settles the new level, and then each counter's count and the INPUT_EDGE occurrence follow, in
an order the spec leaves open (log 4). Where no entry is bound to any of them, the order makes no
difference: the counters count and nothing else changes. -/
def Obligations.InputEdgeSettlesCountsAndIsTaken : Prop :=
  ∀ (s : State) (k : Fin 8), (s.input k).edgeDue = true →
    let e : Edge := if (s.input k).level then .fall else .rise
    let settled := s.setInput k { s.input k with
      level := !(s.input k).level, settling := none, edgeDue := false }
    (exec (.inputEdge k) s
      = .next (settled.settleTasks [[.count 0 k e], [.count 1 k e], [.take (.inputEdge k e)]]))
    ∧ ((∀ o : Occurrence, settled.bound o = false) →
        exec (.inputEdge k) s = .next ((settled.countEdge 0 k e).1.countEdge 1 k e).1)

/-- SAMPLE_POINT reads nothing in OUT. Otherwise, once what still waits is carried out and a chosen SOF that is
due is driven (logs 3 and 7), BUSTX is dominant in that bit time exactly where an ACTIVE station drives its own
hold or its part in a frame, the SOF of a due choice among them, and released in OUT; one bit is read: the
dominant run, and by phase the integration count, a peer's SOF, the frame, the recovery count, or the
persistence and hold-end counts; an own pulse and a QUIET period run one bit. What the bit brings about waits in
order (log 1), and nothing but the Link Controller changes. -/
def Obligations.SamplePointReadsOneBit : Prop :=
  (∀ (s : State) (read : Level), s.lc.phase = .out →
    exec (.samplePoint read) s = .next s ∧ s.busTx = .recessive)
  ∧ (∀ (s : State) (c : Candidate), s.Rested → s.lc.choice = some { candidate := c, due := true } →
      s.mayChoose = true → s.busTx = .dominant)
  ∧ ∀ (s : State) (read : Level), s.lc.phase ≠ .out → let u := s.settleDue.driveDueSof
    let a := u.lc
    (s.busTx = .dominant ↔ a.state = .active
      ∧ (u.ownHold = true ∨ ∃ f, a.frame = some f ∧ f.drive = .dominant))
    ∧ ∃ (t : State) (ofPhase : List LineEvent), exec (.samplePoint read) s = .next t
      ∧ t = { u with lc := t.lc }
      ∧ t.lc.due = a.due ++ ofPhase
        ++ (if read = .dominant ∧ a.dominantRun + 1 = 16 ∧ a.phase ≠ .hold then [.holdDetected] else [])
        ++ (if a.pulse = 1 then [.pulseEnds] else [])
        ++ (if ∃ n, a.quiet = some n ∧ 8192 ≤ n + 1 then [.quietEnds] else [])
      ∧ t.lc.dominantRun = (if read = .dominant then min (a.dominantRun + 1) 16 else 0)
      ∧ t.lc.pulse = (if a.pulse ≤ 1 then a.pulse else a.pulse - 1)
      ∧ (∀ n, a.quiet = some n → t.lc.quiet = some (if n + 1 < 8192 then n + 1 else n))
      ∧ (a.quiet = none → t.lc.quiet = none)
      ∧ (a.phase = .await → t.lc.integration = (if read = .recessive then a.integration + 1 else 0)
          ∧ ofPhase = if read = .recessive ∧ a.integration + 1 = 12 then [.integration] else [])
      ∧ (a.phase = .idle → ofPhase = if read = .dominant ∧ ¬ (a.state = .active ∧ u.ownHold = true) then
          [.peerSof] else [])
      ∧ (∀ f, a.phase = .frame → a.frame = some f →
          t.lc.frame = some (f.bit read).1 ∧ ofPhase = (f.bit read).2)
      ∧ (a.phase = .recovery → t.lc.recovery = (if read = .recessive then a.recovery + 1 else 0)
          ∧ ofPhase = if read = .recessive ∧ a.recovery + 1 = 8 then [.recoveryGap] else [])
      ∧ (a.phase = .hold → read = .dominant → t.lc.holdEnd = 0
          ∧ t.lc.persistence = (if a.persistence + 1 = 2048 then 0 else a.persistence + 1)
          ∧ ofPhase = if a.persistence + 1 = 2048 then [.persistenceMark] else [])
      ∧ (a.phase = .hold → read = .recessive → t.lc.persistence = 0 ∧ t.lc.holdEnd = a.holdEnd + 1
          ∧ ofPhase = if a.holdEnd + 1 = 12 then [.holdEnded] else [])
      ∧ (a.phase = .idle → t.lc.choice = a.choice.map fun c => { c with due := true })
      ∧ (a.phase ≠ .idle → t.lc.choice = a.choice)
      ∧ t.lc = { a with
          due := t.lc.due
          dominantRun := t.lc.dominantRun
          pulse := t.lc.pulse
          quiet := t.lc.quiet
          integration := if a.phase = .await then t.lc.integration else a.integration
          frame := if a.phase = .frame then t.lc.frame else a.frame
          recovery := if a.phase = .recovery then t.lc.recovery else a.recovery
          persistence := if a.phase = .hold then t.lc.persistence else a.persistence
          holdEnd := if a.phase = .hold then t.lc.holdEnd else a.holdEnd
          choice := t.lc.choice }

/-! ## The frame on the wire -/

/-- A bit read wrong is the error of its place: a sixth equal bit is STUFF in either role; the transmitter's bit
read back otherwise is BIT, but for a dominant bit in the arbitration field, which is a loss, after which it
receives; a dominant bit in EOD or EOF is FORM. A receiver's illegal kind, call tag, source, length or call
reference is FORM at the bit that completes it, and a check that disagrees is CHECK at its last bit; a legal bit
is no error. A code detected at a bit read recessive settles at that bit, with every other code of the station;
at a dominant bit nothing settles. A station that has stopped drives nothing and waits for a recessive bit, at
which every code settles, a lost attempt's before its receiver's (log 10). -/
def Obligations.BitsReadWrongAreTheErrorsOfTheirPlace : Prop :=
  (∀ (f : Frame) (read : Level), f.stopped = false → f.run = 5 → read = f.last →
    f.readBit read = ({ f with
      stopped := true
      txCode := if f.role = .transmitter then some .stuff else f.txCode
      rxCode := if f.role = .receiver then some .stuff else f.rxCode }, []))
  ∧ (∀ (f : Frame) (read : Level), f.role = .transmitter → f.run ≠ 5 →
      f.elem = .header ∨ f.elem = .data ∨ f.elem = .check → Level.ofBit (f.toSend.headD true) ≠ read →
      (read = .dominant → f.elem = .header → f.count < 24 →
        (f.readBit read).2 = [] ∧ (f.readBit read).1.role = .receiver ∧ (f.readBit read).1.lost = true
        ∧ (f.readBit read).1.txCode = some .lost)
      ∧ (read = .recessive ∨ f.elem ≠ .header ∨ 24 ≤ f.count →
        f.readBit read = ({ f with stopped := true, txCode := some .bit }, [])))
  ∧ (∀ f : Frame, f.elem = .eod ∨ f.elem = .eof → f.run ≠ 5 →
      f.readBit .dominant = ({ f with
        stopped := true
        txCode := if f.role = .transmitter then some .form else f.txCode
        rxCode := if f.role = .receiver then some .form else f.rxCode }, []))
  ∧ (∀ (f : Frame) (read : Level), f.role = .receiver → f.stopped = false → f.run ≠ 5 →
      f.elem = .header ∨ f.elem = .data →
      let bits := f.bits ++ [read.bit]
      let kind := field bits 3 3
      let length := field bits 24 4
      let illegal := (bits.length = 6 ∧ 3 < kind)
        ∨ (bits.length = 18 ∧ (kind = 2 ∨ kind = 3) ∧ field bits 6 6 = 0)
        ∨ (bits.length = 24 ∧ field bits 18 6 = 0)
        ∨ (bits.length = 28 ∧ ((kind = 0 ∧ 8 < length) ∨ (kind = 1 ∧ (length = 0 ∨ 8 < length))
          ∨ (kind = 2 ∧ (length = 0 ∨ 7 < length)) ∨ (kind = 3 ∧ length ≠ 0) ∨ 3 < kind))
        ∨ (bits.length = 36 ∧ kind = 1 ∧ field bits 34 2 ≠ 0)
      (f.readBit read).2 = [] ∧ (f.readBit read).1.bits = bits ∧ (f.readBit read).1.txCode = f.txCode
      ∧ (illegal → (f.readBit read).1.stopped = true ∧ (f.readBit read).1.rxCode = some .form)
      ∧ (¬ illegal → (f.readBit read).1.stopped = false ∧ (f.readBit read).1.rxCode = f.rxCode))
  ∧ (∀ (f : Frame) (read : Level), f.role = .receiver → f.stopped = false → f.run ≠ 5 → f.elem = .check →
      f.count = 15 →
      let agrees := natOf (f.check ++ [read.bit]) = f.crc.toNat
      (f.readBit read).2 = [] ∧ (f.readBit read).1.txCode = f.txCode
      ∧ (¬ agrees → (f.readBit read).1.stopped = true ∧ (f.readBit read).1.rxCode = some .check)
      ∧ (agrees → (f.readBit read).1.stopped = false ∧ (f.readBit read).1.rxCode = f.rxCode
          ∧ (f.readBit read).1.elem = .eod))
  ∧ (∀ f : Frame, f.stopped = false → f.bit .dominant = f.readBit .dominant
      ∧ f.bit .recessive
        = ({ (f.readBit .recessive).1 with txCode := none, rxCode := none },
          (match (f.readBit .recessive).1.txCode with
            | some c => [LineEvent.attemptSettled c]
            | none => [])
          ++ (match (f.readBit .recessive).1.rxCode with
            | some c => [LineEvent.receiveError c]
            | none => [])
          ++ (f.readBit .recessive).2))
  ∧ (∀ f : Frame, f.stopped = true → f.drive = .recessive ∧ f.bit .dominant = (f, []))
  ∧ ∀ f : Frame, f.stopped = true → f.bit .recessive
      = ({ f with txCode := none, rxCode := none },
        (match f.txCode with
          | some c => [.attemptSettled c]
          | none => [])
        ++ match f.rxCode with
          | some c => [.receiveError c]
          | none => [])

/-- The response window, bit by bit. An unplaced responder drives each start bit and its byte, and gives way for
the position where it sends recessive and reads dominant; a recessive bit where it drove dominant is FORM. A byte
whose verdict is neither ACCEPT nor BUSY is FORM at its second bit, one that names station 0 at its last. A byte
read whole joins the response list, and with any stuff bit behind it places its sender; one that lost competes
again in the next position, or is crowded after the fifteenth. A recessive start bit time is the first bit of
EOF. -/
def Obligations.ResponsePositionsAreReadBitByBit : Prop :=
  (∀ f : Frame, f.stopped = false →
      (f.role = .receiver → f.responder = .competing →
        (f.elem = .start → f.drive = .dominant)
        ∧ (f.elem = .response → f.run ≠ 5 → f.drive = Level.ofBit (f.ownByte.getLsbD (7 - f.count)))
        ∧ (f.elem = .response → f.run = 5 → f.drive ≠ f.last))
      ∧ (f.role = .receiver → f.responder = .sent → f.drive ≠ f.last)
      ∧ (f.elem = .start ∨ f.elem = .response → f.role = .transmitter ∨ f.responder = .absent
          ∨ f.responder = .beaten ∨ f.responder = .placed → f.drive = .recessive))
  ∧ (∀ f : Frame, f.run ≠ 5 → f.elem = .start →
      let failed : Frame := { f with
        stopped := true
        txCode := if f.role = .transmitter then some .form else f.txCode
        rxCode := if f.role = .receiver then some .form else f.rxCode }
      f.readBit .dominant = ({ f with
        elem := .response
        count := 0
        partialByte := []
        run := if f.run ≠ 0 ∧ f.last = .dominant then f.run + 1 else 1
        last := .dominant }, [])
      ∧ (f.responder ≠ .competing → f.readBit .recessive = ({ f with elem := .eof, count := 1, run := 0 }, []))
      ∧ (f.responder = .competing → f.readBit .recessive = (failed, [])))
  ∧ (∀ (f : Frame) (read : Level), f.run ≠ 5 → f.elem = .response →
      let failed (x : Frame) : Frame := { x with
        stopped := true
        txCode := if f.role = .transmitter then some .form else f.txCode
        rxCode := if f.role = .receiver then some .form else f.rxCode }
      let own := Level.ofBit (f.ownByte.getLsbD (7 - f.count))
      let bits := f.partialByte ++ [read.bit]
      let next : Frame := { f with
        run := if f.run ≠ 0 ∧ f.last = read then f.run + 1 else 1
        last := read
        count := f.count + 1
        partialByte := bits
        responder := if f.responder = .competing ∧ own ≠ read then .beaten else f.responder }
      (f.responder = .competing → own = .dominant → read = .recessive → f.readBit read = (failed f, []))
      ∧ (f.responder ≠ .competing ∨ own = .recessive ∨ read = .dominant →
          (f.count = 1 → bits.head? = some true → f.readBit read = (failed next, []))
          ∧ (f.count < 7 → f.count ≠ 1 ∨ bits.head? ≠ some true → f.readBit read = (next, []))
          ∧ (f.count = 7 →
              let b : Byte := BitVec.ofNat 8 (natOf bits)
              let read' (e : Elem) (run : Nat) (r : Responder) : Frame := { next with
                elem := e, count := 0, run := run, responses := f.responses ++ [b], partialByte := [],
                responder := r }
              (b.extractLsb' 0 6 = 0 → f.readBit read = (failed next, []))
              ∧ (b.extractLsb' 0 6 ≠ 0 → next.run = 5 → f.readBit read
                  = (read' (if f.responses.length = 14 then .eof else .start) 5
                    (if next.responder = .competing then .sent else next.responder), []))
              ∧ (b.extractLsb' 0 6 ≠ 0 → next.run ≠ 5 → f.responses.length ≠ 14 →
                  (next.responder = .competing →
                    f.readBit read = (read' .start next.run .placed, [.placed]))
                  ∧ (next.responder = .beaten → f.readBit read = (read' .start next.run .competing, []))
                  ∧ (next.responder = .absent ∨ next.responder = .placed →
                      f.readBit read = (read' .start next.run next.responder, [])))
              ∧ (b.extractLsb' 0 6 ≠ 0 → next.run ≠ 5 → f.responses.length = 14 →
                  (next.responder = .competing → f.readBit read = (read' .eof 0 .placed, [.placed]))
                  ∧ (next.responder = .beaten → f.readBit read = (read' .eof 0 .absent, [.crowded]))
                  ∧ (next.responder = .absent ∨ next.responder = .placed →
                      f.readBit read = (read' .eof 0 next.responder, []))))))
  ∧ ∀ (f : Frame) (read : Level), f.run = 5 → read ≠ f.last →
      let past (run : Nat) (r : Responder) : Frame := { f with run := run, last := read, responder := r }
      (f.elem = .response → f.readBit read = (past 1 f.responder, []))
      ∧ (f.elem = .start → f.responder = .sent → f.readBit read = (past 1 .placed, [.placed]))
      ∧ (f.elem = .start → f.responder = .beaten → f.readBit read = (past 1 .competing, []))
      ∧ (f.elem = .start → f.responder = .absent ∨ f.responder = .placed →
          f.readBit read = (past 1 f.responder, []))
      ∧ (f.elem = .eof → f.responder = .sent → f.readBit read = (past 0 .placed, [.placed]))
      ∧ (f.elem = .eof → f.responder = .beaten → f.readBit read = (past 0 .absent, [.crowded]))
      ∧ (f.elem = .eof → f.responder = .absent ∨ f.responder = .placed →
          f.readBit read = (past 0 f.responder, []))

/-- Every frame that a station can send arrives: two stations alone on a line, one sending it and one hearing
it, both come to its end, and the receiver holds the frame whole, its EOD point passed if it is a CALL. -/
def Obligations.EveryFrameSentArrivesWhole : Prop :=
  ∀ x : RxFrame, x.Sendable → ∃ n, n ≤ 150 ∧
    let p := Pair.run n { first := x.sending, second := Frame.hearing, firstEvents := [], secondEvents := [] }
    p.firstEvents = [.attemptSettled .ok]
    ∧ p.secondEvents = (if x.kind = .call then [.eodPoint, .frameEnd] else [.frameEnd])
    ∧ p.second.received = x

/-- Of two frames that start together, the one with the lower arbitration field is sent whole: the other
station's attempt settles LOST, and it receives the winner's frame from the bit it lost on. -/
def Obligations.LowerArbitrationFieldWins : Prop :=
  ∀ x y : RxFrame, x.Sendable → y.Sendable → x.arbitrationField < y.arbitrationField → ∃ n, n ≤ 150 ∧
    let p := Pair.run n { first := x.sending, second := y.sending, firstEvents := [], secondEvents := [] }
    p.firstEvents = [.attemptSettled .ok]
    ∧ p.secondEvents = .attemptSettled .lost
      :: (if x.kind = .call then [.eodPoint, .frameEnd] else [.frameEnd])
    ∧ p.second.received = x

/-- Two stations in the window of a CALL: two responders are placed one after the other, the lower byte first, and
a caller and its one responder read that one byte; both stations come to the frame's end with the same response
list, in position order. -/
def Obligations.ResponsesArePlacedInAscendingOrder : Prop :=
  ∀ f g : Frame, f.AtWindow → g.AtWindow → g.role = .receiver → g.responder = .competing → g.LegalByte →
    (f.role = .receiver → f.responder = .competing → f.LegalByte → f.ownByte.toNat < g.ownByte.toNat →
      ∃ n, n ≤ 40 ∧
        let p := Pair.run n { first := f, second := g, firstEvents := [], secondEvents := [] }
        p.firstEvents = [.placed, .frameEnd] ∧ p.secondEvents = [.placed, .frameEnd]
        ∧ p.first.responses = [f.ownByte, g.ownByte] ∧ p.second.responses = [f.ownByte, g.ownByte])
    ∧ (f.role = .transmitter → f.responder = .absent →
      ∃ n, n ≤ 40 ∧
        let p := Pair.run n { first := f, second := g, firstEvents := [], secondEvents := [] }
        p.firstEvents = [.attemptSettled .ok] ∧ p.secondEvents = [.placed, .frameEnd]
        ∧ p.first.responses = [g.ownByte] ∧ p.second.responses = [g.ownByte])

/-! ## Choices, lists and tags -/

/-- The arbiter's choice is a candidate with the lowest field among all, priority before kind before topic: a
slot's own, and the protocol priority, kind and call tag of a DONE or a WITHDRAW. A slot comes before a protocol
candidate of the same field, and of two slots the lower index. It chooses where
it may, keeps a choice that stands, and cancels one whose candidate or permission is gone. -/
def Obligations.ArbiterChoosesTheLowestField : Prop :=
  (∀ (s : State) (c : Candidate), s.bestCandidate = some c → s.isCandidate c = true
    ∧ ∀ d, s.isCandidate d = true → s.arbitrationKey c ≤ s.arbitrationKey d
      ∧ ∀ j, d = .slot j → s.arbitrationKey d = s.arbitrationKey c → ∃ i, c = .slot i ∧ i ≤ j)
  ∧ (∀ s : State, s.bestCandidate = none ↔ ∀ d, s.isCandidate d = false)
  ∧ (∀ (s : State) (i : Fin 8), s.arbitrationKey (.slot i)
      = ((s.slot i).priority.toNat * 8 + (if (s.slot i).kind = .cue then 0 else 1)) * 4096
        + (s.slot i).topic.toNat)
  ∧ (∀ (s : State) (o : Fin 8), let tag := (s.obl o).tag
      s.arbitrationKey (.obligation o) = (s.lc.protocolPriority.toNat * 8 + 2) * 4096
        + (tag.caller.toNat * 64 + tag.index.toNat * 8 + tag.generation.toNat))
  ∧ (∀ (s : State) (k : Fin 8), s.arbitrationKey (.withdraw k) = (s.lc.protocolPriority.toNat * 8 + 3) * 4096
      + (s.lc.station.toNat * 64 + k.val * 8 + (s.call k).generation.toNat))
  ∧ (∀ s : State, s.mayChoose = true ↔ s.lc.state = .active ∧ s.lc.held = false ∧ s.lc.holdFlag = false
      ∧ s.lc.pulse = 0 ∧ s.lc.phase = .idle ∧ s.lc.inFlight = none)
  ∧ (∀ s : State, s.mayChoose = true → s.lc.choice = none → s.arbiter = s.setLc { s.lc with
      choice := s.bestCandidate.map fun c => { candidate := c, due := false } })
  ∧ (∀ (s : State) (c : Choice), s.mayChoose = true → s.lc.choice = some c →
      s.isCandidate c.candidate = true → s.arbiter = s)
  ∧ (∀ (s : State) (c : Choice), s.mayChoose = true → s.lc.choice = some c →
      s.isCandidate c.candidate = false → s.arbiter = s.setLc { s.lc with
        choice := s.bestCandidate.map fun c => { candidate := c, due := false } })
  ∧ ∀ s : State, s.mayChoose = false → s.arbiter = s.setLc { s.lc with choice := none }

/-- The enrolment and busy lists of a response list are ascending, disjoint, without the own station and no
longer together than the list; a station is enrolled where the first byte that names it says ACCEPT, and busy
where it says BUSY. The call then opens with the enrolled stations outstanding, or settles UNANSWERED where
there are none. A settlement leaves the entry SETTLED with its outcome and stamp, gives up the stations still
outstanding unless the outcome is ALL_DONE, drops a WITHDRAW that is owed, reports, and keeps every other field
and entry as it was; that the entry then still names its slot is the model's choice (log 27). -/
def Obligations.CallsOpenAndSettle : Prop :=
  ((∀ (own : Station) (responses : List Byte), let p := responseLists own responses
      p.1.Pairwise (· < ·) ∧ p.2.Pairwise (· < ·) ∧ (∀ x, x ∈ p.1 → x ∉ p.2) ∧ own ∉ p.1 ∧ own ∉ p.2
      ∧ p.1.length + p.2.length ≤ responses.length
      ∧ ∀ x, x ≠ own →
        (x ∈ p.1 ↔ ∃ b, responses.find? (fun b => b.extractLsb' 0 6 == x) = some b ∧ b.getLsbD 6 = false)
        ∧ (x ∈ p.2 ↔ ∃ b, responses.find? (fun b => b.extractLsb' 0 6 == x) = some b ∧ b.getLsbD 6 = true))
    ∧ ∀ (s : State) (k : Fin 8) (responses : List Byte), let p := responseLists s.lc.station responses
      let e : CallEntry := { s.call k with
        enrolled := p.1, busy := p.2, outstanding := p.1, results := [], unanswered := [], openedAt := s.now }
      (p.1 ≠ [] → s.openCall k responses = (s.setCall k
        { e with state := .opened, remaining := e.deadline, fraction := 0 }, []))
      ∧ (p.1 = [] → s.openCall k responses = (((((s.setCall k { e with
          state := .settled
          outcome := some .unanswered
          settledAt := s.now
          withdrawPending := false
          expiring := false }).setFlag .callSettled).addCallSettled k).arbiter), [.callSettled k .unanswered])))
  ∧ (∀ (s : State) (k : Fin 8) (x : CallOutcome), let e := s.call k
      s.settleCall k x = (((s.setCall k { e with
        state := .settled
        outcome := some x
        settledAt := s.now
        withdrawPending := false
        expiring := false
        outstanding := if x = .allDone then e.outstanding else []
        unanswered := if x = .allDone then e.unanswered
          else e.outstanding.foldl (fun l y => insertStation y l) e.unanswered
        }).setFlag .callSettled).addCallSettled k).arbiter)

/-- No verdict gives two entries one call tag: where no two entries in use hold the same tag and none is
RESERVED, none do after it. -/
def Obligations.VerdictsKeepTagsUnique : Prop :=
  ∀ (s : State) (tag : CallTag) (topic : Topic) (f : Fin 16),
    (∀ o, (s.obl o).state ≠ .reserved) →
    (∀ o p, (s.obl o).state ≠ .free → (s.obl p).state ≠ .free → (s.obl o).tag = (s.obl p).tag → o = p) →
    let t := (s.takeVerdict tag topic f).1
    ∀ o p, (t.obl o).state ≠ .free → (t.obl p).state ≠ .free → (t.obl o).tag = (t.obl p).tag → o = p

/-! ## Invariants -/

/-- Every step keeps link state, phase, condition and frame fitting each other, and a choice, a slot SENDING,
a DONE and a WITHDRAW in flight as their rules allow them. The other premises are the rest of this joint
invariant, whose keeping the next statement says. -/
def Obligations.StepKeepsLinkAndChoice : Prop :=
  ∀ s t : State, s.LinkInv → s.ChoiceInv → s.BindingInv → s.MarksInv → step s = .next t →
    t.LinkInv ∧ t.ChoiceInv

/-- Every step keeps RESERVED entries and CALL slots in PENDING or SENDING bound one to one, and the rerun and
abort marks to SENDING. -/
def Obligations.StepKeepsBindingsAndMarks : Prop :=
  ∀ s t : State, s.LinkInv → s.ChoiceInv → s.BindingInv → s.MarksInv → step s = .next t →
    t.BindingInv ∧ t.MarksInv

/-- Every step keeps the obligation table free of two entries that are not FREE under one call tag, and a
RESERVED entry the one that the verdict of the frame in progress names. -/
def Obligations.StepKeepsTagsUnique : Prop :=
  ∀ s t : State, s.TagsInv → step s = .next t → t.TagsInv

/-- Every step keeps each call entry's account: every enrolled station is in exactly one of the outstanding
set, the results and the unanswered list. Every step keeps reactions SPENT exactly when a limited budget is
used up, from JOIN on. -/
def Obligations.StepKeepsAccountsAndBudgets : Prop :=
  (∀ s t : State, s.AccountsInv → step s = .next t → t.AccountsInv)
  ∧ (∀ s t : State, s.LinkInv → s.BudgetInv → step s = .next t → t.BudgetInv)

/-- Every step keeps the Receive Queue within its capacity with RX_READY following it, and the Host Port's phase
and bytes in order. Every step keeps in their ranges the statistics, the failure count, the dominant run, the
integration, recovery, hold-end and persistence counts, the pulse, the QUIET period, the losses, attempts and
deadline of a slot, the deadline, remaining, fraction and withdraw attempts of a call, an obligation's attempts
and a reaction's fire count; the premises beside these are the joint invariant of link, choice, bindings and
marks. -/
def Obligations.StepKeepsQueueCountsAndPort : Prop :=
  (∀ s t : State, s.QueueInv → s.PortInv → step s = .next t → t.QueueInv ∧ t.PortInv)
  ∧ ∀ s t : State, s.LinkInv → s.ChoiceInv → s.BindingInv → s.MarksInv → s.CountsInv → step s = .next t →
    t.CountsInv

/-- Every step keeps the timers' and trains' counts within their parts, and from JOIN on each train's line
owned by it and at the level it gives. -/
def Obligations.StepKeepsTimersTrainsAndOutputs : Prop :=
  ∀ s t : State, s.LinkInv → s.TimersInv → s.TrainsInv → s.OutputsInv → step s = .next t →
    t.TimersInv ∧ t.TrainsInv ∧ t.OutputsInv

/-- Every invariant holds after reset. -/
def Obligations.InvariantsHoldAfterReset : Prop :=
  State.reset.LinkInv ∧ State.reset.ChoiceInv ∧ State.reset.BindingInv ∧ State.reset.MarksInv
  ∧ State.reset.TagsInv ∧ State.reset.AccountsInv ∧ State.reset.QueueInv ∧ State.reset.CountsInv ∧ State.reset.PortInv
  ∧ State.reset.BudgetInv ∧ State.reset.TimersInv ∧ State.reset.TrainsInv ∧ State.reset.OutputsInv
end

