-- ==== Sys2Proof/Laws/Bytes.lean ====
section
/-! SUPPORT. What a completed byte does, said once by port phase: the bytes of a command take that command. -/

namespace Sys2Proof.Machine

/-- A host command taken by its bytes is the command's own row. -/
theorem execHostCommand_eq (c : Instr) (s : State) (h : (encodeCommand c).isSome = true) :
    execHostCommand c s = exec c s := by
  cases c <;> first | exact absurd h Bool.false_ne_true | rfl

/-- Bytes that name a host command take it. -/
theorem takeBytes_of_decode {bytes : List Byte} {c : Instr} (h : decodeCommand bytes = some c)
    (hc : (encodeCommand c).isSome = true) (s : State) : takeBytes bytes s = exec c s := by
  simp only [takeBytes, h]
  exact execHostCommand_eq c s hc

/-- A byte in COMMAND is the command byte. -/
theorem execByteCompletes_command {s : State} (b : Byte) (h : s.hp.phase = .command) :
    execByteCompletes b s = commandByte b s := by simp only [execByteCompletes, h]

/-- A byte in PARAMETERS is the next parameter byte. -/
theorem execByteCompletes_parameters {s : State} {got : List Byte} (b : Byte)
    (h : s.hp.phase = .parameters got) : execByteCompletes b s = parameterByte got b s := by
  simp only [execByteCompletes, h]

/-- The command byte of a command without parameters takes it. -/
theorem commandByte_of_zero {code : Byte} (h : paramCount code = some 0) (s : State) :
    commandByte code s = takeBytes [code] s := by simp only [commandByte, h]

/-- The last parameter byte takes the command. -/
theorem parameterByte_of_last {code : Byte} {ps : List Byte} {n : Nat} (h : paramCount code = some n)
    (hn : n ≤ ps.length + 1) (b : Byte) (s : State) :
    parameterByte (code :: ps) b s = takeBytes (code :: ps ++ [b]) s := by
  simp only [parameterByte, List.head?_cons, Option.bind_some, h, List.length_cons]
  exact if_neg (Nat.not_lt.mpr hn)

end Sys2Proof.Machine
end

