-- ==== Sys2Proof/Laws/Operands.lean ====
section
/-! SUPPORT. Bytes, bit fields and indexes: what the layout helpers of Machine/Operands.lean give. -/

namespace Sys2Proof.Machine

/-! ## Indexes -/

/-- A byte below the number of members names the member of its value. -/
theorem ix_of_val {n : Nat} [NeZero n] (b : Byte) (i : Fin n) (h : b.toNat = i.val) : ix n b = i := by
  apply Fin.ext
  simp [ix, Fin.ofNat, h, Nat.mod_eq_of_lt i.isLt]

/-- The first member that has a property: it has it, and no lower one does. -/
theorem find_finRange_eq_some {n : Nat} (p : Fin n → Bool) (k : Fin n) :
    (List.finRange n).find? p = some k ↔ p k = true ∧ ∀ j, j < k → p j = false := by
  rw [List.find?_eq_some_iff_getElem]
  constructor
  · rintro ⟨hk, i, hi, rfl, h⟩
    refine ⟨hk, fun j hj => ?_⟩
    have := h j.val (by simpa [Fin.lt_def] using hj)
    simpa using this
  · rintro ⟨hk, h⟩
    refine ⟨hk, k.val, by simp, by simp, fun j hj => ?_⟩
    have := h ⟨j, by omega⟩ hj
    simpa using this

/-- No member has a property where the search finds none. -/
theorem find_finRange_eq_none {n : Nat} (p : Fin n → Bool) :
    (List.finRange n).find? p = none ↔ ∀ k, p k = false := by
  simp [List.find?_eq_none]

/-! ## Numbers in bytes (R206) -/

theorem be_two (n : Nat) : be 2 n = two n := by simp [be, two]

theorem be_three (n : Nat) : be 3 n = three n := by simp [be, three]

theorem be_four (x : Stamp) : be 4 x.toNat = four x := by
  simp only [be, four]
  refine List.cons_eq_cons.mpr ⟨?_, List.cons_eq_cons.mpr ⟨?_, List.cons_eq_cons.mpr ⟨?_,
    List.cons_eq_cons.mpr ⟨?_, rfl⟩⟩⟩⟩ <;>
    apply BitVec.eq_of_toNat_eq <;>
    simp [BitVec.extractLsb'_toNat, Nat.shiftRight_eq_div_pow]

/-! ## Bit fields (R206) -/

/-- Adding a member sets its bit and no other. -/
theorem withBit_getLsbD {n : Nat} (v : BitVec n) (i j : Nat) (hi : i < n) :
    (withBit v i).getLsbD j = (v.getLsbD j || decide (j = i)) := by
  have : (BitVec.ofNat n (2 ^ i)).getLsbD j = decide (j = i) := by
    rw [BitVec.getLsbD_ofNat, Nat.testBit_two_pow]
    rcases eq_or_ne i j with h | h
    · subst h; simp [hi]
    · have h2 : j ≠ i := h.symm
      simp [h, h2]
  unfold withBit
  rw [BitVec.getLsbD_or, this]

/-- Adding the members of a list sets their bits and no other. -/
theorem foldl_withBit_getLsbD {n m : Nat} (hm : m ≤ n) (l : List (Fin m)) (v : BitVec n) (j : Fin m) :
    (l.foldl (fun v k => withBit v k.val) v).getLsbD j.val = (v.getLsbD j.val || decide (j ∈ l)) := by
  induction l generalizing v with
  | nil => simp
  | cons a t ih =>
    rw [List.foldl_cons, ih, withBit_getLsbD _ _ _ (by omega)]
    by_cases h : j = a <;> simp [h, Fin.val_inj]

/-- Bit k of a byte of levels is the level of line k. -/
theorem levelsByte_getLsbD (level : Fin 8 → Bool) (j : Fin 8) : (levelsByte level).getLsbD j.val = level j := by
  have key : ∀ (l : List (Fin 8)) (v : Byte),
      (l.foldl (fun v k => if level k then withBit v k.val else v) v).getLsbD j.val
        = (v.getLsbD j.val || (decide (j ∈ l) && level j)) := by
    intro l
    induction l with
    | nil => intro v; simp
    | cons a t ih =>
      intro v
      rw [List.foldl_cons, ih]
      by_cases ha : level a
      · simp only [ha, if_true]
        rw [withBit_getLsbD _ _ _ (by omega)]
        by_cases hja : j = a
        · subst hja; simp [ha]
        · simp [hja, Fin.val_inj]
      · by_cases hja : j = a
        · subst hja; simp [ha]
        · simp [ha, hja]
  unfold levelsByte
  rw [key]
  simp

/-! ## Flags (R199) -/

/-- Setting a flag sets that flag and no other. -/
theorem flag_setFlag (s : State) (f g : Flag) : (s.setFlag f).flag g = (s.flag g || decide (f = g)) := by
  cases f <;> cases g <;> simp [State.flag, State.setFlag, Flag.ix, withBit]

/-- Clearing a flag clears that flag and no other. -/
theorem flag_clearFlag (s : State) (f g : Flag) : (s.clearFlag f).flag g = (s.flag g && decide (f ≠ g)) := by
  cases f <;> cases g <;> simp [State.flag, State.clearFlag, Flag.ix, withBit]

/-- FLAGS READ clears every flag but RX_READY. -/
theorem flag_clearHeldFlags (s : State) (g : Flag) :
    s.clearHeldFlags.flag g = (s.flag g && decide (g = .rxReady)) := by
  cases g <;> simp [State.flag, State.clearHeldFlags, Flag.ix, withBit]

/-- Counting an event raises its counter and no other. -/
theorem stat_countStat (s : State) (c d : Stat) :
    (s.countStat c).stat d = if d = c then min (s.stat c + 1) 255 else s.stat d := by
  cases c <;> cases d <;> simp [State.stat, State.countStat, State.setFlag, Stat.ix]

end Sys2Proof.Machine
end

