-- ==== Sys2Proof/Laws/State.lean ====
section
/-! SUPPORT. One lemma per field and per entry for each named update of the state, and what reading an
entry gives after writing it. -/

namespace Sys2Proof.Machine

namespace State

variable (s : State)

/-! ## setSlot -/

section

variable (i : Fin 8) (x : Slot)

@[simp] theorem setSlot_lc : (s.setSlot i x).lc = s.lc := rfl
@[simp] theorem setSlot_outbox : (s.setSlot i x).outbox = s.outbox.set i x := rfl
@[simp] theorem setSlot_au : (s.setSlot i x).au = s.au := rfl
@[simp] theorem setSlot_rq : (s.setSlot i x).rq = s.rq := rfl
@[simp] theorem setSlot_cu : (s.setSlot i x).cu = s.cu := rfl
@[simp] theorem setSlot_ou : (s.setSlot i x).ou = s.ou := rfl
@[simp] theorem setSlot_re : (s.setSlot i x).re = s.re := rfl
@[simp] theorem setSlot_tu : (s.setSlot i x).tu = s.tu := rfl
@[simp] theorem setSlot_lu : (s.setSlot i x).lu = s.lu := rfl
@[simp] theorem setSlot_eu : (s.setSlot i x).eu = s.eu := rfl
@[simp] theorem setSlot_hp : (s.setSlot i x).hp = s.hp := rfl
@[simp] theorem setSlot_image : (s.setSlot i x).image = s.image := rfl
@[simp] theorem setSlot_pending : (s.setSlot i x).pending = s.pending := rfl
@[simp] theorem setSlot_freeCount : (s.setSlot i x).freeCount = s.freeCount := rfl
@[simp] theorem call_setSlot (j : Fin 8) : (s.setSlot i x).call j = s.call j := rfl
@[simp] theorem obl_setSlot (j : Fin 8) : (s.setSlot i x).obl j = s.obl j := rfl
@[simp] theorem timer_setSlot (j : Fin 4) : (s.setSlot i x).timer j = s.timer j := rfl
@[simp] theorem counter_setSlot (j : Fin 2) : (s.setSlot i x).counter j = s.counter j := rfl
@[simp] theorem train_setSlot (j : Fin 2) : (s.setSlot i x).train j = s.train j := rfl
@[simp] theorem input_setSlot (j : Fin 8) : (s.setSlot i x).input j = s.input j := rfl
@[simp] theorem output_setSlot (j : Fin 8) : (s.setSlot i x).output j = s.output j := rfl
@[simp] theorem reaction_setSlot (j : Fin 24) : (s.setSlot i x).reaction j = s.reaction j := rfl
@[simp] theorem run_setSlot (j : Fin 24) : (s.setSlot i x).run j = s.run j := rfl
@[simp] theorem filter_setSlot (j : Fin 16) : (s.setSlot i x).filter j = s.filter j := rfl
@[simp] theorem now_setSlot : (s.setSlot i x).now = s.now := rfl

@[simp] theorem slot_setSlot_self : (s.setSlot i x).slot i = x := by
  simp [State.slot, State.setSlot]

theorem slot_setSlot (j : Fin 8) : (s.setSlot i x).slot j = if j = i then x else s.slot j := by
  rcases eq_or_ne j i with rfl | h
  · simp
  · simp [State.slot, State.setSlot, h, Fin.val_inj, Ne.symm h]

end

/-! ## setCall -/

section

variable (i : Fin 8) (x : CallEntry)

@[simp] theorem setCall_lc : (s.setCall i x).lc = s.lc := rfl
@[simp] theorem setCall_outbox : (s.setCall i x).outbox = s.outbox := rfl
@[simp] theorem setCall_au : (s.setCall i x).au = s.au := rfl
@[simp] theorem setCall_rq : (s.setCall i x).rq = s.rq := rfl
@[simp] theorem setCall_cu : (s.setCall i x).cu = s.cu.set i x := rfl
@[simp] theorem setCall_ou : (s.setCall i x).ou = s.ou := rfl
@[simp] theorem setCall_re : (s.setCall i x).re = s.re := rfl
@[simp] theorem setCall_tu : (s.setCall i x).tu = s.tu := rfl
@[simp] theorem setCall_lu : (s.setCall i x).lu = s.lu := rfl
@[simp] theorem setCall_eu : (s.setCall i x).eu = s.eu := rfl
@[simp] theorem setCall_hp : (s.setCall i x).hp = s.hp := rfl
@[simp] theorem setCall_image : (s.setCall i x).image = s.image := rfl
@[simp] theorem setCall_pending : (s.setCall i x).pending = s.pending := rfl
@[simp] theorem setCall_freeCount : (s.setCall i x).freeCount = s.freeCount := rfl
@[simp] theorem slot_setCall (j : Fin 8) : (s.setCall i x).slot j = s.slot j := rfl
@[simp] theorem obl_setCall (j : Fin 8) : (s.setCall i x).obl j = s.obl j := rfl
@[simp] theorem timer_setCall (j : Fin 4) : (s.setCall i x).timer j = s.timer j := rfl
@[simp] theorem counter_setCall (j : Fin 2) : (s.setCall i x).counter j = s.counter j := rfl
@[simp] theorem train_setCall (j : Fin 2) : (s.setCall i x).train j = s.train j := rfl
@[simp] theorem input_setCall (j : Fin 8) : (s.setCall i x).input j = s.input j := rfl
@[simp] theorem output_setCall (j : Fin 8) : (s.setCall i x).output j = s.output j := rfl
@[simp] theorem reaction_setCall (j : Fin 24) : (s.setCall i x).reaction j = s.reaction j := rfl
@[simp] theorem run_setCall (j : Fin 24) : (s.setCall i x).run j = s.run j := rfl
@[simp] theorem filter_setCall (j : Fin 16) : (s.setCall i x).filter j = s.filter j := rfl
@[simp] theorem now_setCall : (s.setCall i x).now = s.now := rfl

@[simp] theorem call_setCall_self : (s.setCall i x).call i = x := by
  simp [State.call, State.setCall]

theorem call_setCall (j : Fin 8) : (s.setCall i x).call j = if j = i then x else s.call j := by
  rcases eq_or_ne j i with rfl | h
  · simp
  · simp [State.call, State.setCall, h, Fin.val_inj, Ne.symm h]

end

/-! ## setObl -/

section

variable (i : Fin 8) (x : Obligation)

@[simp] theorem setObl_lc : (s.setObl i x).lc = s.lc := rfl
@[simp] theorem setObl_outbox : (s.setObl i x).outbox = s.outbox := rfl
@[simp] theorem setObl_au : (s.setObl i x).au = s.au := rfl
@[simp] theorem setObl_rq : (s.setObl i x).rq = s.rq := rfl
@[simp] theorem setObl_cu : (s.setObl i x).cu = s.cu := rfl
@[simp] theorem setObl_ou : (s.setObl i x).ou = { s.ou with entries := s.ou.entries.set i x } := rfl
@[simp] theorem setObl_re : (s.setObl i x).re = s.re := rfl
@[simp] theorem setObl_tu : (s.setObl i x).tu = s.tu := rfl
@[simp] theorem setObl_lu : (s.setObl i x).lu = s.lu := rfl
@[simp] theorem setObl_eu : (s.setObl i x).eu = s.eu := rfl
@[simp] theorem setObl_hp : (s.setObl i x).hp = s.hp := rfl
@[simp] theorem setObl_image : (s.setObl i x).image = s.image := rfl
@[simp] theorem setObl_pending : (s.setObl i x).pending = s.pending := rfl
@[simp] theorem setObl_freeCount : (s.setObl i x).freeCount = s.freeCount := rfl
@[simp] theorem slot_setObl (j : Fin 8) : (s.setObl i x).slot j = s.slot j := rfl
@[simp] theorem call_setObl (j : Fin 8) : (s.setObl i x).call j = s.call j := rfl
@[simp] theorem timer_setObl (j : Fin 4) : (s.setObl i x).timer j = s.timer j := rfl
@[simp] theorem counter_setObl (j : Fin 2) : (s.setObl i x).counter j = s.counter j := rfl
@[simp] theorem train_setObl (j : Fin 2) : (s.setObl i x).train j = s.train j := rfl
@[simp] theorem input_setObl (j : Fin 8) : (s.setObl i x).input j = s.input j := rfl
@[simp] theorem output_setObl (j : Fin 8) : (s.setObl i x).output j = s.output j := rfl
@[simp] theorem reaction_setObl (j : Fin 24) : (s.setObl i x).reaction j = s.reaction j := rfl
@[simp] theorem run_setObl (j : Fin 24) : (s.setObl i x).run j = s.run j := rfl
@[simp] theorem filter_setObl (j : Fin 16) : (s.setObl i x).filter j = s.filter j := rfl
@[simp] theorem now_setObl : (s.setObl i x).now = s.now := rfl

@[simp] theorem obl_setObl_self : (s.setObl i x).obl i = x := by
  simp [State.obl, State.setObl]

theorem obl_setObl (j : Fin 8) : (s.setObl i x).obl j = if j = i then x else s.obl j := by
  rcases eq_or_ne j i with rfl | h
  · simp
  · simp [State.obl, State.setObl, h, Fin.val_inj, Ne.symm h]

end

/-! ## setVerdict -/

section

variable (x : Option Verdict)

@[simp] theorem setVerdict_lc : (s.setVerdict x).lc = s.lc := rfl
@[simp] theorem setVerdict_outbox : (s.setVerdict x).outbox = s.outbox := rfl
@[simp] theorem setVerdict_au : (s.setVerdict x).au = s.au := rfl
@[simp] theorem setVerdict_rq : (s.setVerdict x).rq = s.rq := rfl
@[simp] theorem setVerdict_cu : (s.setVerdict x).cu = s.cu := rfl
@[simp] theorem setVerdict_ou : (s.setVerdict x).ou = { s.ou with verdict := x } := rfl
@[simp] theorem setVerdict_re : (s.setVerdict x).re = s.re := rfl
@[simp] theorem setVerdict_tu : (s.setVerdict x).tu = s.tu := rfl
@[simp] theorem setVerdict_lu : (s.setVerdict x).lu = s.lu := rfl
@[simp] theorem setVerdict_eu : (s.setVerdict x).eu = s.eu := rfl
@[simp] theorem setVerdict_hp : (s.setVerdict x).hp = s.hp := rfl
@[simp] theorem setVerdict_image : (s.setVerdict x).image = s.image := rfl
@[simp] theorem setVerdict_pending : (s.setVerdict x).pending = s.pending := rfl
@[simp] theorem setVerdict_freeCount : (s.setVerdict x).freeCount = s.freeCount := rfl
@[simp] theorem slot_setVerdict (j : Fin 8) : (s.setVerdict x).slot j = s.slot j := rfl
@[simp] theorem call_setVerdict (j : Fin 8) : (s.setVerdict x).call j = s.call j := rfl
@[simp] theorem obl_setVerdict (j : Fin 8) : (s.setVerdict x).obl j = s.obl j := rfl
@[simp] theorem timer_setVerdict (j : Fin 4) : (s.setVerdict x).timer j = s.timer j := rfl
@[simp] theorem counter_setVerdict (j : Fin 2) : (s.setVerdict x).counter j = s.counter j := rfl
@[simp] theorem train_setVerdict (j : Fin 2) : (s.setVerdict x).train j = s.train j := rfl
@[simp] theorem input_setVerdict (j : Fin 8) : (s.setVerdict x).input j = s.input j := rfl
@[simp] theorem output_setVerdict (j : Fin 8) : (s.setVerdict x).output j = s.output j := rfl
@[simp] theorem reaction_setVerdict (j : Fin 24) : (s.setVerdict x).reaction j = s.reaction j := rfl
@[simp] theorem run_setVerdict (j : Fin 24) : (s.setVerdict x).run j = s.run j := rfl
@[simp] theorem filter_setVerdict (j : Fin 16) : (s.setVerdict x).filter j = s.filter j := rfl
@[simp] theorem now_setVerdict : (s.setVerdict x).now = s.now := rfl

end

/-! ## setTimer -/

section

variable (i : Fin 4) (x : Timer)

@[simp] theorem setTimer_lc : (s.setTimer i x).lc = s.lc := rfl
@[simp] theorem setTimer_outbox : (s.setTimer i x).outbox = s.outbox := rfl
@[simp] theorem setTimer_au : (s.setTimer i x).au = s.au := rfl
@[simp] theorem setTimer_rq : (s.setTimer i x).rq = s.rq := rfl
@[simp] theorem setTimer_cu : (s.setTimer i x).cu = s.cu := rfl
@[simp] theorem setTimer_ou : (s.setTimer i x).ou = s.ou := rfl
@[simp] theorem setTimer_re : (s.setTimer i x).re = s.re := rfl
@[simp] theorem setTimer_tu : (s.setTimer i x).tu = { s.tu with timers := s.tu.timers.set i x } := rfl
@[simp] theorem setTimer_lu : (s.setTimer i x).lu = s.lu := rfl
@[simp] theorem setTimer_eu : (s.setTimer i x).eu = s.eu := rfl
@[simp] theorem setTimer_hp : (s.setTimer i x).hp = s.hp := rfl
@[simp] theorem setTimer_image : (s.setTimer i x).image = s.image := rfl
@[simp] theorem setTimer_pending : (s.setTimer i x).pending = s.pending := rfl
@[simp] theorem setTimer_freeCount : (s.setTimer i x).freeCount = s.freeCount := rfl
@[simp] theorem slot_setTimer (j : Fin 8) : (s.setTimer i x).slot j = s.slot j := rfl
@[simp] theorem call_setTimer (j : Fin 8) : (s.setTimer i x).call j = s.call j := rfl
@[simp] theorem obl_setTimer (j : Fin 8) : (s.setTimer i x).obl j = s.obl j := rfl
@[simp] theorem counter_setTimer (j : Fin 2) : (s.setTimer i x).counter j = s.counter j := rfl
@[simp] theorem train_setTimer (j : Fin 2) : (s.setTimer i x).train j = s.train j := rfl
@[simp] theorem input_setTimer (j : Fin 8) : (s.setTimer i x).input j = s.input j := rfl
@[simp] theorem output_setTimer (j : Fin 8) : (s.setTimer i x).output j = s.output j := rfl
@[simp] theorem reaction_setTimer (j : Fin 24) : (s.setTimer i x).reaction j = s.reaction j := rfl
@[simp] theorem run_setTimer (j : Fin 24) : (s.setTimer i x).run j = s.run j := rfl
@[simp] theorem filter_setTimer (j : Fin 16) : (s.setTimer i x).filter j = s.filter j := rfl
@[simp] theorem now_setTimer : (s.setTimer i x).now = s.now := rfl

@[simp] theorem timer_setTimer_self : (s.setTimer i x).timer i = x := by
  simp [State.timer, State.setTimer]

theorem timer_setTimer (j : Fin 4) : (s.setTimer i x).timer j = if j = i then x else s.timer j := by
  rcases eq_or_ne j i with rfl | h
  · simp
  · simp [State.timer, State.setTimer, h, Fin.val_inj, Ne.symm h]

end

/-! ## setCounter -/

section

variable (i : Fin 2) (x : Counter)

@[simp] theorem setCounter_lc : (s.setCounter i x).lc = s.lc := rfl
@[simp] theorem setCounter_outbox : (s.setCounter i x).outbox = s.outbox := rfl
@[simp] theorem setCounter_au : (s.setCounter i x).au = s.au := rfl
@[simp] theorem setCounter_rq : (s.setCounter i x).rq = s.rq := rfl
@[simp] theorem setCounter_cu : (s.setCounter i x).cu = s.cu := rfl
@[simp] theorem setCounter_ou : (s.setCounter i x).ou = s.ou := rfl
@[simp] theorem setCounter_re : (s.setCounter i x).re = s.re := rfl
@[simp] theorem setCounter_tu : (s.setCounter i x).tu = { s.tu with counters := s.tu.counters.set i x } := rfl
@[simp] theorem setCounter_lu : (s.setCounter i x).lu = s.lu := rfl
@[simp] theorem setCounter_eu : (s.setCounter i x).eu = s.eu := rfl
@[simp] theorem setCounter_hp : (s.setCounter i x).hp = s.hp := rfl
@[simp] theorem setCounter_image : (s.setCounter i x).image = s.image := rfl
@[simp] theorem setCounter_pending : (s.setCounter i x).pending = s.pending := rfl
@[simp] theorem setCounter_freeCount : (s.setCounter i x).freeCount = s.freeCount := rfl
@[simp] theorem slot_setCounter (j : Fin 8) : (s.setCounter i x).slot j = s.slot j := rfl
@[simp] theorem call_setCounter (j : Fin 8) : (s.setCounter i x).call j = s.call j := rfl
@[simp] theorem obl_setCounter (j : Fin 8) : (s.setCounter i x).obl j = s.obl j := rfl
@[simp] theorem timer_setCounter (j : Fin 4) : (s.setCounter i x).timer j = s.timer j := rfl
@[simp] theorem train_setCounter (j : Fin 2) : (s.setCounter i x).train j = s.train j := rfl
@[simp] theorem input_setCounter (j : Fin 8) : (s.setCounter i x).input j = s.input j := rfl
@[simp] theorem output_setCounter (j : Fin 8) : (s.setCounter i x).output j = s.output j := rfl
@[simp] theorem reaction_setCounter (j : Fin 24) : (s.setCounter i x).reaction j = s.reaction j := rfl
@[simp] theorem run_setCounter (j : Fin 24) : (s.setCounter i x).run j = s.run j := rfl
@[simp] theorem filter_setCounter (j : Fin 16) : (s.setCounter i x).filter j = s.filter j := rfl
@[simp] theorem now_setCounter : (s.setCounter i x).now = s.now := rfl

@[simp] theorem counter_setCounter_self : (s.setCounter i x).counter i = x := by
  simp [State.counter, State.setCounter]

theorem counter_setCounter (j : Fin 2) : (s.setCounter i x).counter j = if j = i then x else s.counter j := by
  rcases eq_or_ne j i with rfl | h
  · simp
  · simp [State.counter, State.setCounter, h, Fin.val_inj, Ne.symm h]

end

/-! ## setTrain -/

section

variable (i : Fin 2) (x : Train)

@[simp] theorem setTrain_lc : (s.setTrain i x).lc = s.lc := rfl
@[simp] theorem setTrain_outbox : (s.setTrain i x).outbox = s.outbox := rfl
@[simp] theorem setTrain_au : (s.setTrain i x).au = s.au := rfl
@[simp] theorem setTrain_rq : (s.setTrain i x).rq = s.rq := rfl
@[simp] theorem setTrain_cu : (s.setTrain i x).cu = s.cu := rfl
@[simp] theorem setTrain_ou : (s.setTrain i x).ou = s.ou := rfl
@[simp] theorem setTrain_re : (s.setTrain i x).re = s.re := rfl
@[simp] theorem setTrain_tu : (s.setTrain i x).tu = { s.tu with trains := s.tu.trains.set i x } := rfl
@[simp] theorem setTrain_lu : (s.setTrain i x).lu = s.lu := rfl
@[simp] theorem setTrain_eu : (s.setTrain i x).eu = s.eu := rfl
@[simp] theorem setTrain_hp : (s.setTrain i x).hp = s.hp := rfl
@[simp] theorem setTrain_image : (s.setTrain i x).image = s.image := rfl
@[simp] theorem setTrain_pending : (s.setTrain i x).pending = s.pending := rfl
@[simp] theorem setTrain_freeCount : (s.setTrain i x).freeCount = s.freeCount := rfl
@[simp] theorem slot_setTrain (j : Fin 8) : (s.setTrain i x).slot j = s.slot j := rfl
@[simp] theorem call_setTrain (j : Fin 8) : (s.setTrain i x).call j = s.call j := rfl
@[simp] theorem obl_setTrain (j : Fin 8) : (s.setTrain i x).obl j = s.obl j := rfl
@[simp] theorem timer_setTrain (j : Fin 4) : (s.setTrain i x).timer j = s.timer j := rfl
@[simp] theorem counter_setTrain (j : Fin 2) : (s.setTrain i x).counter j = s.counter j := rfl
@[simp] theorem input_setTrain (j : Fin 8) : (s.setTrain i x).input j = s.input j := rfl
@[simp] theorem output_setTrain (j : Fin 8) : (s.setTrain i x).output j = s.output j := rfl
@[simp] theorem reaction_setTrain (j : Fin 24) : (s.setTrain i x).reaction j = s.reaction j := rfl
@[simp] theorem run_setTrain (j : Fin 24) : (s.setTrain i x).run j = s.run j := rfl
@[simp] theorem filter_setTrain (j : Fin 16) : (s.setTrain i x).filter j = s.filter j := rfl
@[simp] theorem now_setTrain : (s.setTrain i x).now = s.now := rfl

@[simp] theorem train_setTrain_self : (s.setTrain i x).train i = x := by
  simp [State.train, State.setTrain]

theorem train_setTrain (j : Fin 2) : (s.setTrain i x).train j = if j = i then x else s.train j := by
  rcases eq_or_ne j i with rfl | h
  · simp
  · simp [State.train, State.setTrain, h, Fin.val_inj, Ne.symm h]

end

/-! ## setInput -/

section

variable (i : Fin 8) (x : InputLine)

@[simp] theorem setInput_lc : (s.setInput i x).lc = s.lc := rfl
@[simp] theorem setInput_outbox : (s.setInput i x).outbox = s.outbox := rfl
@[simp] theorem setInput_au : (s.setInput i x).au = s.au := rfl
@[simp] theorem setInput_rq : (s.setInput i x).rq = s.rq := rfl
@[simp] theorem setInput_cu : (s.setInput i x).cu = s.cu := rfl
@[simp] theorem setInput_ou : (s.setInput i x).ou = s.ou := rfl
@[simp] theorem setInput_re : (s.setInput i x).re = s.re := rfl
@[simp] theorem setInput_tu : (s.setInput i x).tu = s.tu := rfl
@[simp] theorem setInput_lu : (s.setInput i x).lu = { s.lu with inputs := s.lu.inputs.set i x } := rfl
@[simp] theorem setInput_eu : (s.setInput i x).eu = s.eu := rfl
@[simp] theorem setInput_hp : (s.setInput i x).hp = s.hp := rfl
@[simp] theorem setInput_image : (s.setInput i x).image = s.image := rfl
@[simp] theorem setInput_pending : (s.setInput i x).pending = s.pending := rfl
@[simp] theorem setInput_freeCount : (s.setInput i x).freeCount = s.freeCount := rfl
@[simp] theorem slot_setInput (j : Fin 8) : (s.setInput i x).slot j = s.slot j := rfl
@[simp] theorem call_setInput (j : Fin 8) : (s.setInput i x).call j = s.call j := rfl
@[simp] theorem obl_setInput (j : Fin 8) : (s.setInput i x).obl j = s.obl j := rfl
@[simp] theorem timer_setInput (j : Fin 4) : (s.setInput i x).timer j = s.timer j := rfl
@[simp] theorem counter_setInput (j : Fin 2) : (s.setInput i x).counter j = s.counter j := rfl
@[simp] theorem train_setInput (j : Fin 2) : (s.setInput i x).train j = s.train j := rfl
@[simp] theorem output_setInput (j : Fin 8) : (s.setInput i x).output j = s.output j := rfl
@[simp] theorem reaction_setInput (j : Fin 24) : (s.setInput i x).reaction j = s.reaction j := rfl
@[simp] theorem run_setInput (j : Fin 24) : (s.setInput i x).run j = s.run j := rfl
@[simp] theorem filter_setInput (j : Fin 16) : (s.setInput i x).filter j = s.filter j := rfl
@[simp] theorem now_setInput : (s.setInput i x).now = s.now := rfl

@[simp] theorem input_setInput_self : (s.setInput i x).input i = x := by
  simp [State.input, State.setInput]

theorem input_setInput (j : Fin 8) : (s.setInput i x).input j = if j = i then x else s.input j := by
  rcases eq_or_ne j i with rfl | h
  · simp
  · simp [State.input, State.setInput, h, Fin.val_inj, Ne.symm h]

end

/-! ## setOutput -/

section

variable (i : Fin 8) (x : OutputLine)

@[simp] theorem setOutput_lc : (s.setOutput i x).lc = s.lc := rfl
@[simp] theorem setOutput_outbox : (s.setOutput i x).outbox = s.outbox := rfl
@[simp] theorem setOutput_au : (s.setOutput i x).au = s.au := rfl
@[simp] theorem setOutput_rq : (s.setOutput i x).rq = s.rq := rfl
@[simp] theorem setOutput_cu : (s.setOutput i x).cu = s.cu := rfl
@[simp] theorem setOutput_ou : (s.setOutput i x).ou = s.ou := rfl
@[simp] theorem setOutput_re : (s.setOutput i x).re = s.re := rfl
@[simp] theorem setOutput_tu : (s.setOutput i x).tu = s.tu := rfl
@[simp] theorem setOutput_lu : (s.setOutput i x).lu = { s.lu with outputs := s.lu.outputs.set i x } := rfl
@[simp] theorem setOutput_eu : (s.setOutput i x).eu = s.eu := rfl
@[simp] theorem setOutput_hp : (s.setOutput i x).hp = s.hp := rfl
@[simp] theorem setOutput_image : (s.setOutput i x).image = s.image := rfl
@[simp] theorem setOutput_pending : (s.setOutput i x).pending = s.pending := rfl
@[simp] theorem setOutput_freeCount : (s.setOutput i x).freeCount = s.freeCount := rfl
@[simp] theorem slot_setOutput (j : Fin 8) : (s.setOutput i x).slot j = s.slot j := rfl
@[simp] theorem call_setOutput (j : Fin 8) : (s.setOutput i x).call j = s.call j := rfl
@[simp] theorem obl_setOutput (j : Fin 8) : (s.setOutput i x).obl j = s.obl j := rfl
@[simp] theorem timer_setOutput (j : Fin 4) : (s.setOutput i x).timer j = s.timer j := rfl
@[simp] theorem counter_setOutput (j : Fin 2) : (s.setOutput i x).counter j = s.counter j := rfl
@[simp] theorem train_setOutput (j : Fin 2) : (s.setOutput i x).train j = s.train j := rfl
@[simp] theorem input_setOutput (j : Fin 8) : (s.setOutput i x).input j = s.input j := rfl
@[simp] theorem reaction_setOutput (j : Fin 24) : (s.setOutput i x).reaction j = s.reaction j := rfl
@[simp] theorem run_setOutput (j : Fin 24) : (s.setOutput i x).run j = s.run j := rfl
@[simp] theorem filter_setOutput (j : Fin 16) : (s.setOutput i x).filter j = s.filter j := rfl
@[simp] theorem now_setOutput : (s.setOutput i x).now = s.now := rfl

@[simp] theorem output_setOutput_self : (s.setOutput i x).output i = x := by
  simp [State.output, State.setOutput]

theorem output_setOutput (j : Fin 8) : (s.setOutput i x).output j = if j = i then x else s.output j := by
  rcases eq_or_ne j i with rfl | h
  · simp
  · simp [State.output, State.setOutput, h, Fin.val_inj, Ne.symm h]

end

/-! ## setRun -/

section

variable (i : Fin 24) (x : ReactionRun)

@[simp] theorem setRun_lc : (s.setRun i x).lc = s.lc := rfl
@[simp] theorem setRun_outbox : (s.setRun i x).outbox = s.outbox := rfl
@[simp] theorem setRun_au : (s.setRun i x).au = s.au := rfl
@[simp] theorem setRun_rq : (s.setRun i x).rq = s.rq := rfl
@[simp] theorem setRun_cu : (s.setRun i x).cu = s.cu := rfl
@[simp] theorem setRun_ou : (s.setRun i x).ou = s.ou := rfl
@[simp] theorem setRun_re : (s.setRun i x).re = { s.re with runs := s.re.runs.set i x } := rfl
@[simp] theorem setRun_tu : (s.setRun i x).tu = s.tu := rfl
@[simp] theorem setRun_lu : (s.setRun i x).lu = s.lu := rfl
@[simp] theorem setRun_eu : (s.setRun i x).eu = s.eu := rfl
@[simp] theorem setRun_hp : (s.setRun i x).hp = s.hp := rfl
@[simp] theorem setRun_image : (s.setRun i x).image = s.image := rfl
@[simp] theorem setRun_pending : (s.setRun i x).pending = s.pending := rfl
@[simp] theorem setRun_freeCount : (s.setRun i x).freeCount = s.freeCount := rfl
@[simp] theorem slot_setRun (j : Fin 8) : (s.setRun i x).slot j = s.slot j := rfl
@[simp] theorem call_setRun (j : Fin 8) : (s.setRun i x).call j = s.call j := rfl
@[simp] theorem obl_setRun (j : Fin 8) : (s.setRun i x).obl j = s.obl j := rfl
@[simp] theorem timer_setRun (j : Fin 4) : (s.setRun i x).timer j = s.timer j := rfl
@[simp] theorem counter_setRun (j : Fin 2) : (s.setRun i x).counter j = s.counter j := rfl
@[simp] theorem train_setRun (j : Fin 2) : (s.setRun i x).train j = s.train j := rfl
@[simp] theorem input_setRun (j : Fin 8) : (s.setRun i x).input j = s.input j := rfl
@[simp] theorem output_setRun (j : Fin 8) : (s.setRun i x).output j = s.output j := rfl
@[simp] theorem reaction_setRun (j : Fin 24) : (s.setRun i x).reaction j = s.reaction j := rfl
@[simp] theorem filter_setRun (j : Fin 16) : (s.setRun i x).filter j = s.filter j := rfl
@[simp] theorem now_setRun : (s.setRun i x).now = s.now := rfl

@[simp] theorem run_setRun_self : (s.setRun i x).run i = x := by
  simp [State.run, State.setRun]

theorem run_setRun (j : Fin 24) : (s.setRun i x).run j = if j = i then x else s.run j := by
  rcases eq_or_ne j i with rfl | h
  · simp
  · simp [State.run, State.setRun, h, Fin.val_inj, Ne.symm h]

end

/-! ## setLc -/

section

variable (x : LinkController)

@[simp] theorem setLc_lc : (s.setLc x).lc = x := rfl
@[simp] theorem setLc_outbox : (s.setLc x).outbox = s.outbox := rfl
@[simp] theorem setLc_au : (s.setLc x).au = s.au := rfl
@[simp] theorem setLc_rq : (s.setLc x).rq = s.rq := rfl
@[simp] theorem setLc_cu : (s.setLc x).cu = s.cu := rfl
@[simp] theorem setLc_ou : (s.setLc x).ou = s.ou := rfl
@[simp] theorem setLc_re : (s.setLc x).re = s.re := rfl
@[simp] theorem setLc_tu : (s.setLc x).tu = s.tu := rfl
@[simp] theorem setLc_lu : (s.setLc x).lu = s.lu := rfl
@[simp] theorem setLc_eu : (s.setLc x).eu = s.eu := rfl
@[simp] theorem setLc_hp : (s.setLc x).hp = s.hp := rfl
@[simp] theorem setLc_image : (s.setLc x).image = s.image := rfl
@[simp] theorem setLc_pending : (s.setLc x).pending = s.pending := rfl
@[simp] theorem setLc_freeCount : (s.setLc x).freeCount = s.freeCount := rfl
@[simp] theorem slot_setLc (j : Fin 8) : (s.setLc x).slot j = s.slot j := rfl
@[simp] theorem call_setLc (j : Fin 8) : (s.setLc x).call j = s.call j := rfl
@[simp] theorem obl_setLc (j : Fin 8) : (s.setLc x).obl j = s.obl j := rfl
@[simp] theorem timer_setLc (j : Fin 4) : (s.setLc x).timer j = s.timer j := rfl
@[simp] theorem counter_setLc (j : Fin 2) : (s.setLc x).counter j = s.counter j := rfl
@[simp] theorem train_setLc (j : Fin 2) : (s.setLc x).train j = s.train j := rfl
@[simp] theorem input_setLc (j : Fin 8) : (s.setLc x).input j = s.input j := rfl
@[simp] theorem output_setLc (j : Fin 8) : (s.setLc x).output j = s.output j := rfl
@[simp] theorem reaction_setLc (j : Fin 24) : (s.setLc x).reaction j = s.reaction j := rfl
@[simp] theorem run_setLc (j : Fin 24) : (s.setLc x).run j = s.run j := rfl
@[simp] theorem filter_setLc (j : Fin 16) : (s.setLc x).filter j = s.filter j := rfl
@[simp] theorem now_setLc : (s.setLc x).now = s.now := rfl

end

/-! ## setFlag -/

section

variable (f : Flag)

@[simp] theorem setFlag_lc : (s.setFlag f).lc = s.lc := rfl
@[simp] theorem setFlag_outbox : (s.setFlag f).outbox = s.outbox := rfl
@[simp] theorem setFlag_au : (s.setFlag f).au = s.au := rfl
@[simp] theorem setFlag_rq : (s.setFlag f).rq = s.rq := rfl
@[simp] theorem setFlag_cu : (s.setFlag f).cu = s.cu := rfl
@[simp] theorem setFlag_ou : (s.setFlag f).ou = s.ou := rfl
@[simp] theorem setFlag_re : (s.setFlag f).re = s.re := rfl
@[simp] theorem setFlag_tu : (s.setFlag f).tu = s.tu := rfl
@[simp] theorem setFlag_lu : (s.setFlag f).lu = s.lu := rfl
@[simp] theorem setFlag_eu : (s.setFlag f).eu = { s.eu with flags := withBit s.eu.flags f.ix.val } := rfl
@[simp] theorem setFlag_hp : (s.setFlag f).hp = s.hp := rfl
@[simp] theorem setFlag_image : (s.setFlag f).image = s.image := rfl
@[simp] theorem setFlag_pending : (s.setFlag f).pending = s.pending := rfl
@[simp] theorem setFlag_freeCount : (s.setFlag f).freeCount = s.freeCount := rfl
@[simp] theorem slot_setFlag (j : Fin 8) : (s.setFlag f).slot j = s.slot j := rfl
@[simp] theorem call_setFlag (j : Fin 8) : (s.setFlag f).call j = s.call j := rfl
@[simp] theorem obl_setFlag (j : Fin 8) : (s.setFlag f).obl j = s.obl j := rfl
@[simp] theorem timer_setFlag (j : Fin 4) : (s.setFlag f).timer j = s.timer j := rfl
@[simp] theorem counter_setFlag (j : Fin 2) : (s.setFlag f).counter j = s.counter j := rfl
@[simp] theorem train_setFlag (j : Fin 2) : (s.setFlag f).train j = s.train j := rfl
@[simp] theorem input_setFlag (j : Fin 8) : (s.setFlag f).input j = s.input j := rfl
@[simp] theorem output_setFlag (j : Fin 8) : (s.setFlag f).output j = s.output j := rfl
@[simp] theorem reaction_setFlag (j : Fin 24) : (s.setFlag f).reaction j = s.reaction j := rfl
@[simp] theorem run_setFlag (j : Fin 24) : (s.setFlag f).run j = s.run j := rfl
@[simp] theorem filter_setFlag (j : Fin 16) : (s.setFlag f).filter j = s.filter j := rfl
@[simp] theorem now_setFlag : (s.setFlag f).now = s.now := rfl

end

/-! ## clearFlag -/

section

variable (f : Flag)

@[simp] theorem clearFlag_lc : (s.clearFlag f).lc = s.lc := rfl
@[simp] theorem clearFlag_outbox : (s.clearFlag f).outbox = s.outbox := rfl
@[simp] theorem clearFlag_au : (s.clearFlag f).au = s.au := rfl
@[simp] theorem clearFlag_rq : (s.clearFlag f).rq = s.rq := rfl
@[simp] theorem clearFlag_cu : (s.clearFlag f).cu = s.cu := rfl
@[simp] theorem clearFlag_ou : (s.clearFlag f).ou = s.ou := rfl
@[simp] theorem clearFlag_re : (s.clearFlag f).re = s.re := rfl
@[simp] theorem clearFlag_tu : (s.clearFlag f).tu = s.tu := rfl
@[simp] theorem clearFlag_lu : (s.clearFlag f).lu = s.lu := rfl
@[simp] theorem clearFlag_eu : (s.clearFlag f).eu = { s.eu with flags := s.eu.flags &&& ~~~(withBit 0 f.ix.val) } := rfl
@[simp] theorem clearFlag_hp : (s.clearFlag f).hp = s.hp := rfl
@[simp] theorem clearFlag_image : (s.clearFlag f).image = s.image := rfl
@[simp] theorem clearFlag_pending : (s.clearFlag f).pending = s.pending := rfl
@[simp] theorem clearFlag_freeCount : (s.clearFlag f).freeCount = s.freeCount := rfl
@[simp] theorem slot_clearFlag (j : Fin 8) : (s.clearFlag f).slot j = s.slot j := rfl
@[simp] theorem call_clearFlag (j : Fin 8) : (s.clearFlag f).call j = s.call j := rfl
@[simp] theorem obl_clearFlag (j : Fin 8) : (s.clearFlag f).obl j = s.obl j := rfl
@[simp] theorem timer_clearFlag (j : Fin 4) : (s.clearFlag f).timer j = s.timer j := rfl
@[simp] theorem counter_clearFlag (j : Fin 2) : (s.clearFlag f).counter j = s.counter j := rfl
@[simp] theorem train_clearFlag (j : Fin 2) : (s.clearFlag f).train j = s.train j := rfl
@[simp] theorem input_clearFlag (j : Fin 8) : (s.clearFlag f).input j = s.input j := rfl
@[simp] theorem output_clearFlag (j : Fin 8) : (s.clearFlag f).output j = s.output j := rfl
@[simp] theorem reaction_clearFlag (j : Fin 24) : (s.clearFlag f).reaction j = s.reaction j := rfl
@[simp] theorem run_clearFlag (j : Fin 24) : (s.clearFlag f).run j = s.run j := rfl
@[simp] theorem filter_clearFlag (j : Fin 16) : (s.clearFlag f).filter j = s.filter j := rfl
@[simp] theorem now_clearFlag : (s.clearFlag f).now = s.now := rfl

end

/-! ## addSlotDone -/

section

variable (i : Fin 8)

@[simp] theorem addSlotDone_lc : (s.addSlotDone i).lc = s.lc := rfl
@[simp] theorem addSlotDone_outbox : (s.addSlotDone i).outbox = s.outbox := rfl
@[simp] theorem addSlotDone_au : (s.addSlotDone i).au = s.au := rfl
@[simp] theorem addSlotDone_rq : (s.addSlotDone i).rq = s.rq := rfl
@[simp] theorem addSlotDone_cu : (s.addSlotDone i).cu = s.cu := rfl
@[simp] theorem addSlotDone_ou : (s.addSlotDone i).ou = s.ou := rfl
@[simp] theorem addSlotDone_re : (s.addSlotDone i).re = s.re := rfl
@[simp] theorem addSlotDone_tu : (s.addSlotDone i).tu = s.tu := rfl
@[simp] theorem addSlotDone_lu : (s.addSlotDone i).lu = s.lu := rfl
@[simp] theorem addSlotDone_eu : (s.addSlotDone i).eu = { s.eu with slotsDone := withBit s.eu.slotsDone i.val } := rfl
@[simp] theorem addSlotDone_hp : (s.addSlotDone i).hp = s.hp := rfl
@[simp] theorem addSlotDone_image : (s.addSlotDone i).image = s.image := rfl
@[simp] theorem addSlotDone_pending : (s.addSlotDone i).pending = s.pending := rfl
@[simp] theorem addSlotDone_freeCount : (s.addSlotDone i).freeCount = s.freeCount := rfl
@[simp] theorem slot_addSlotDone (j : Fin 8) : (s.addSlotDone i).slot j = s.slot j := rfl
@[simp] theorem call_addSlotDone (j : Fin 8) : (s.addSlotDone i).call j = s.call j := rfl
@[simp] theorem obl_addSlotDone (j : Fin 8) : (s.addSlotDone i).obl j = s.obl j := rfl
@[simp] theorem timer_addSlotDone (j : Fin 4) : (s.addSlotDone i).timer j = s.timer j := rfl
@[simp] theorem counter_addSlotDone (j : Fin 2) : (s.addSlotDone i).counter j = s.counter j := rfl
@[simp] theorem train_addSlotDone (j : Fin 2) : (s.addSlotDone i).train j = s.train j := rfl
@[simp] theorem input_addSlotDone (j : Fin 8) : (s.addSlotDone i).input j = s.input j := rfl
@[simp] theorem output_addSlotDone (j : Fin 8) : (s.addSlotDone i).output j = s.output j := rfl
@[simp] theorem reaction_addSlotDone (j : Fin 24) : (s.addSlotDone i).reaction j = s.reaction j := rfl
@[simp] theorem run_addSlotDone (j : Fin 24) : (s.addSlotDone i).run j = s.run j := rfl
@[simp] theorem filter_addSlotDone (j : Fin 16) : (s.addSlotDone i).filter j = s.filter j := rfl
@[simp] theorem now_addSlotDone : (s.addSlotDone i).now = s.now := rfl

end

/-! ## addCallSettled -/

section

variable (i : Fin 8)

@[simp] theorem addCallSettled_lc : (s.addCallSettled i).lc = s.lc := rfl
@[simp] theorem addCallSettled_outbox : (s.addCallSettled i).outbox = s.outbox := rfl
@[simp] theorem addCallSettled_au : (s.addCallSettled i).au = s.au := rfl
@[simp] theorem addCallSettled_rq : (s.addCallSettled i).rq = s.rq := rfl
@[simp] theorem addCallSettled_cu : (s.addCallSettled i).cu = s.cu := rfl
@[simp] theorem addCallSettled_ou : (s.addCallSettled i).ou = s.ou := rfl
@[simp] theorem addCallSettled_re : (s.addCallSettled i).re = s.re := rfl
@[simp] theorem addCallSettled_tu : (s.addCallSettled i).tu = s.tu := rfl
@[simp] theorem addCallSettled_lu : (s.addCallSettled i).lu = s.lu := rfl
@[simp] theorem addCallSettled_eu : (s.addCallSettled i).eu = { s.eu with callsSettled := withBit s.eu.callsSettled i.val } := rfl
@[simp] theorem addCallSettled_hp : (s.addCallSettled i).hp = s.hp := rfl
@[simp] theorem addCallSettled_image : (s.addCallSettled i).image = s.image := rfl
@[simp] theorem addCallSettled_pending : (s.addCallSettled i).pending = s.pending := rfl
@[simp] theorem addCallSettled_freeCount : (s.addCallSettled i).freeCount = s.freeCount := rfl
@[simp] theorem slot_addCallSettled (j : Fin 8) : (s.addCallSettled i).slot j = s.slot j := rfl
@[simp] theorem call_addCallSettled (j : Fin 8) : (s.addCallSettled i).call j = s.call j := rfl
@[simp] theorem obl_addCallSettled (j : Fin 8) : (s.addCallSettled i).obl j = s.obl j := rfl
@[simp] theorem timer_addCallSettled (j : Fin 4) : (s.addCallSettled i).timer j = s.timer j := rfl
@[simp] theorem counter_addCallSettled (j : Fin 2) : (s.addCallSettled i).counter j = s.counter j := rfl
@[simp] theorem train_addCallSettled (j : Fin 2) : (s.addCallSettled i).train j = s.train j := rfl
@[simp] theorem input_addCallSettled (j : Fin 8) : (s.addCallSettled i).input j = s.input j := rfl
@[simp] theorem output_addCallSettled (j : Fin 8) : (s.addCallSettled i).output j = s.output j := rfl
@[simp] theorem reaction_addCallSettled (j : Fin 24) : (s.addCallSettled i).reaction j = s.reaction j := rfl
@[simp] theorem run_addCallSettled (j : Fin 24) : (s.addCallSettled i).run j = s.run j := rfl
@[simp] theorem filter_addCallSettled (j : Fin 16) : (s.addCallSettled i).filter j = s.filter j := rfl
@[simp] theorem now_addCallSettled : (s.addCallSettled i).now = s.now := rfl

end

/-! ## addOblOpened -/

section

variable (i : Fin 8)

@[simp] theorem addOblOpened_lc : (s.addOblOpened i).lc = s.lc := rfl
@[simp] theorem addOblOpened_outbox : (s.addOblOpened i).outbox = s.outbox := rfl
@[simp] theorem addOblOpened_au : (s.addOblOpened i).au = s.au := rfl
@[simp] theorem addOblOpened_rq : (s.addOblOpened i).rq = s.rq := rfl
@[simp] theorem addOblOpened_cu : (s.addOblOpened i).cu = s.cu := rfl
@[simp] theorem addOblOpened_ou : (s.addOblOpened i).ou = s.ou := rfl
@[simp] theorem addOblOpened_re : (s.addOblOpened i).re = s.re := rfl
@[simp] theorem addOblOpened_tu : (s.addOblOpened i).tu = s.tu := rfl
@[simp] theorem addOblOpened_lu : (s.addOblOpened i).lu = s.lu := rfl
@[simp] theorem addOblOpened_eu : (s.addOblOpened i).eu = { s.eu with oblsOpened := withBit s.eu.oblsOpened i.val } := rfl
@[simp] theorem addOblOpened_hp : (s.addOblOpened i).hp = s.hp := rfl
@[simp] theorem addOblOpened_image : (s.addOblOpened i).image = s.image := rfl
@[simp] theorem addOblOpened_pending : (s.addOblOpened i).pending = s.pending := rfl
@[simp] theorem addOblOpened_freeCount : (s.addOblOpened i).freeCount = s.freeCount := rfl
@[simp] theorem slot_addOblOpened (j : Fin 8) : (s.addOblOpened i).slot j = s.slot j := rfl
@[simp] theorem call_addOblOpened (j : Fin 8) : (s.addOblOpened i).call j = s.call j := rfl
@[simp] theorem obl_addOblOpened (j : Fin 8) : (s.addOblOpened i).obl j = s.obl j := rfl
@[simp] theorem timer_addOblOpened (j : Fin 4) : (s.addOblOpened i).timer j = s.timer j := rfl
@[simp] theorem counter_addOblOpened (j : Fin 2) : (s.addOblOpened i).counter j = s.counter j := rfl
@[simp] theorem train_addOblOpened (j : Fin 2) : (s.addOblOpened i).train j = s.train j := rfl
@[simp] theorem input_addOblOpened (j : Fin 8) : (s.addOblOpened i).input j = s.input j := rfl
@[simp] theorem output_addOblOpened (j : Fin 8) : (s.addOblOpened i).output j = s.output j := rfl
@[simp] theorem reaction_addOblOpened (j : Fin 24) : (s.addOblOpened i).reaction j = s.reaction j := rfl
@[simp] theorem run_addOblOpened (j : Fin 24) : (s.addOblOpened i).run j = s.run j := rfl
@[simp] theorem filter_addOblOpened (j : Fin 16) : (s.addOblOpened i).filter j = s.filter j := rfl
@[simp] theorem now_addOblOpened : (s.addOblOpened i).now = s.now := rfl

end

/-! ## addOblChanged -/

section

variable (i : Fin 8)

@[simp] theorem addOblChanged_lc : (s.addOblChanged i).lc = s.lc := rfl
@[simp] theorem addOblChanged_outbox : (s.addOblChanged i).outbox = s.outbox := rfl
@[simp] theorem addOblChanged_au : (s.addOblChanged i).au = s.au := rfl
@[simp] theorem addOblChanged_rq : (s.addOblChanged i).rq = s.rq := rfl
@[simp] theorem addOblChanged_cu : (s.addOblChanged i).cu = s.cu := rfl
@[simp] theorem addOblChanged_ou : (s.addOblChanged i).ou = s.ou := rfl
@[simp] theorem addOblChanged_re : (s.addOblChanged i).re = s.re := rfl
@[simp] theorem addOblChanged_tu : (s.addOblChanged i).tu = s.tu := rfl
@[simp] theorem addOblChanged_lu : (s.addOblChanged i).lu = s.lu := rfl
@[simp] theorem addOblChanged_eu : (s.addOblChanged i).eu = { s.eu with oblsChanged := withBit s.eu.oblsChanged i.val } := rfl
@[simp] theorem addOblChanged_hp : (s.addOblChanged i).hp = s.hp := rfl
@[simp] theorem addOblChanged_image : (s.addOblChanged i).image = s.image := rfl
@[simp] theorem addOblChanged_pending : (s.addOblChanged i).pending = s.pending := rfl
@[simp] theorem addOblChanged_freeCount : (s.addOblChanged i).freeCount = s.freeCount := rfl
@[simp] theorem slot_addOblChanged (j : Fin 8) : (s.addOblChanged i).slot j = s.slot j := rfl
@[simp] theorem call_addOblChanged (j : Fin 8) : (s.addOblChanged i).call j = s.call j := rfl
@[simp] theorem obl_addOblChanged (j : Fin 8) : (s.addOblChanged i).obl j = s.obl j := rfl
@[simp] theorem timer_addOblChanged (j : Fin 4) : (s.addOblChanged i).timer j = s.timer j := rfl
@[simp] theorem counter_addOblChanged (j : Fin 2) : (s.addOblChanged i).counter j = s.counter j := rfl
@[simp] theorem train_addOblChanged (j : Fin 2) : (s.addOblChanged i).train j = s.train j := rfl
@[simp] theorem input_addOblChanged (j : Fin 8) : (s.addOblChanged i).input j = s.input j := rfl
@[simp] theorem output_addOblChanged (j : Fin 8) : (s.addOblChanged i).output j = s.output j := rfl
@[simp] theorem reaction_addOblChanged (j : Fin 24) : (s.addOblChanged i).reaction j = s.reaction j := rfl
@[simp] theorem run_addOblChanged (j : Fin 24) : (s.addOblChanged i).run j = s.run j := rfl
@[simp] theorem filter_addOblChanged (j : Fin 16) : (s.addOblChanged i).filter j = s.filter j := rfl
@[simp] theorem now_addOblChanged : (s.addOblChanged i).now = s.now := rfl

end

/-! ## reply -/

section

variable (st : Status) (data : List Byte)

@[simp] theorem reply_lc : (s.reply st data).lc = s.lc := rfl
@[simp] theorem reply_outbox : (s.reply st data).outbox = s.outbox := rfl
@[simp] theorem reply_au : (s.reply st data).au = s.au := rfl
@[simp] theorem reply_rq : (s.reply st data).rq = s.rq := rfl
@[simp] theorem reply_cu : (s.reply st data).cu = s.cu := rfl
@[simp] theorem reply_ou : (s.reply st data).ou = s.ou := rfl
@[simp] theorem reply_re : (s.reply st data).re = s.re := rfl
@[simp] theorem reply_tu : (s.reply st data).tu = s.tu := rfl
@[simp] theorem reply_lu : (s.reply st data).lu = s.lu := rfl
@[simp] theorem reply_eu : (s.reply st data).eu = s.eu := rfl
@[simp] theorem reply_hp : (s.reply st data).hp = { s.hp with phase := .reply (replyBytes st data), hso := some 0 } := rfl
@[simp] theorem reply_image : (s.reply st data).image = s.image := rfl
@[simp] theorem reply_pending : (s.reply st data).pending = s.pending := rfl
@[simp] theorem reply_freeCount : (s.reply st data).freeCount = s.freeCount := rfl
@[simp] theorem slot_reply (j : Fin 8) : (s.reply st data).slot j = s.slot j := rfl
@[simp] theorem call_reply (j : Fin 8) : (s.reply st data).call j = s.call j := rfl
@[simp] theorem obl_reply (j : Fin 8) : (s.reply st data).obl j = s.obl j := rfl
@[simp] theorem timer_reply (j : Fin 4) : (s.reply st data).timer j = s.timer j := rfl
@[simp] theorem counter_reply (j : Fin 2) : (s.reply st data).counter j = s.counter j := rfl
@[simp] theorem train_reply (j : Fin 2) : (s.reply st data).train j = s.train j := rfl
@[simp] theorem input_reply (j : Fin 8) : (s.reply st data).input j = s.input j := rfl
@[simp] theorem output_reply (j : Fin 8) : (s.reply st data).output j = s.output j := rfl
@[simp] theorem reaction_reply (j : Fin 24) : (s.reply st data).reaction j = s.reaction j := rfl
@[simp] theorem run_reply (j : Fin 24) : (s.reply st data).run j = s.run j := rfl
@[simp] theorem filter_reply (j : Fin 16) : (s.reply st data).filter j = s.filter j := rfl
@[simp] theorem now_reply : (s.reply st data).now = s.now := rfl

end

/-! ## The same update twice: the last one stands -/

@[simp] theorem setLc_setLc (x y : LinkController) : (s.setLc x).setLc y = s.setLc y := rfl

@[simp] theorem setVerdict_setVerdict (x y : Option Verdict) :
    (s.setVerdict x).setVerdict y = s.setVerdict y := rfl

@[simp] theorem setSlot_setSlot (i : Fin 8) (x y : Slot) :
    (s.setSlot i x).setSlot i y = s.setSlot i y := by simp [State.setSlot]

@[simp] theorem setCall_setCall (k : Fin 8) (x y : CallEntry) :
    (s.setCall k x).setCall k y = s.setCall k y := by simp [State.setCall]

@[simp] theorem setObl_setObl (o : Fin 8) (x y : Obligation) :
    (s.setObl o x).setObl o y = s.setObl o y := by simp [State.setObl]

@[simp] theorem setTimer_setTimer (t : Fin 4) (x y : Timer) :
    (s.setTimer t x).setTimer t y = s.setTimer t y := by simp [State.setTimer]

@[simp] theorem setCounter_setCounter (c : Fin 2) (x y : Counter) :
    (s.setCounter c x).setCounter c y = s.setCounter c y := by simp [State.setCounter]

@[simp] theorem setTrain_setTrain (g : Fin 2) (x y : Train) :
    (s.setTrain g x).setTrain g y = s.setTrain g y := by simp [State.setTrain]

@[simp] theorem setInput_setInput (k : Fin 8) (x y : InputLine) :
    (s.setInput k x).setInput k y = s.setInput k y := by simp [State.setInput]

@[simp] theorem setOutput_setOutput (k : Fin 8) (x y : OutputLine) :
    (s.setOutput k x).setOutput k y = s.setOutput k y := by simp [State.setOutput]

@[simp] theorem setRun_setRun (r : Fin 24) (x y : ReactionRun) :
    (s.setRun r x).setRun r y = s.setRun r y := by simp [State.setRun]

end State

end Sys2Proof.Machine
end

