-- ==== Sys2Proof/Laws/Ops.lean ====
section
/-! SUPPORT. What each shared operation of Machine/Ops.lean and Machine/Flags.lean can change. -/

namespace Sys2Proof.Machine

namespace State

variable (s : State)

/-! ## The arbiter: it changes the choice held, and nothing else -/

theorem dropChoice_eq : s.dropChoice = s ∨ s.dropChoice = s.setLc { s.lc with choice := none } := by
  unfold dropChoice
  split
  · split
    · exact Or.inl rfl
    · exact Or.inr rfl
  · exact Or.inl rfl

/-- The arbiter changes the choice held alone. -/
theorem arbiter_eq : s.arbiter = s.setLc { s.lc with choice := s.arbiter.lc.choice } := by
  unfold arbiter
  rcases s.dropChoice_eq with h | h <;> rw [h] <;> dsimp only <;> split <;> rfl

theorem arbiter_lc : s.arbiter.lc = { s.lc with choice := s.arbiter.lc.choice } := by
  conv_lhs => rw [s.arbiter_eq]
  rfl

@[simp] theorem arbiter_outbox : s.arbiter.outbox = s.outbox := by rw [s.arbiter_eq]; rfl
@[simp] theorem arbiter_au : s.arbiter.au = s.au := by rw [s.arbiter_eq]; rfl
@[simp] theorem arbiter_rq : s.arbiter.rq = s.rq := by rw [s.arbiter_eq]; rfl
@[simp] theorem arbiter_cu : s.arbiter.cu = s.cu := by rw [s.arbiter_eq]; rfl
@[simp] theorem arbiter_ou : s.arbiter.ou = s.ou := by rw [s.arbiter_eq]; rfl
@[simp] theorem arbiter_re : s.arbiter.re = s.re := by rw [s.arbiter_eq]; rfl
@[simp] theorem arbiter_tu : s.arbiter.tu = s.tu := by rw [s.arbiter_eq]; rfl
@[simp] theorem arbiter_lu : s.arbiter.lu = s.lu := by rw [s.arbiter_eq]; rfl
@[simp] theorem arbiter_eu : s.arbiter.eu = s.eu := by rw [s.arbiter_eq]; rfl
@[simp] theorem arbiter_hp : s.arbiter.hp = s.hp := by rw [s.arbiter_eq]; rfl
@[simp] theorem arbiter_image : s.arbiter.image = s.image := by rw [s.arbiter_eq]; rfl
@[simp] theorem arbiter_pending : s.arbiter.pending = s.pending := by rw [s.arbiter_eq]; rfl
@[simp] theorem arbiter_freeCount : s.arbiter.freeCount = s.freeCount := by rw [s.arbiter_eq]; rfl
@[simp] theorem arbiter_now : s.arbiter.now = s.now := by rw [s.arbiter_eq]; rfl
@[simp] theorem slot_arbiter (i : Fin 8) : s.arbiter.slot i = s.slot i := by rw [s.arbiter_eq]; rfl
@[simp] theorem call_arbiter (k : Fin 8) : s.arbiter.call k = s.call k := by rw [s.arbiter_eq]; rfl
@[simp] theorem obl_arbiter (o : Fin 8) : s.arbiter.obl o = s.obl o := by rw [s.arbiter_eq]; rfl
@[simp] theorem timer_arbiter (t : Fin 4) : s.arbiter.timer t = s.timer t := by rw [s.arbiter_eq]; rfl
@[simp] theorem counter_arbiter (c : Fin 2) : s.arbiter.counter c = s.counter c := by
  rw [s.arbiter_eq]; rfl
@[simp] theorem train_arbiter (g : Fin 2) : s.arbiter.train g = s.train g := by rw [s.arbiter_eq]; rfl
@[simp] theorem input_arbiter (k : Fin 8) : s.arbiter.input k = s.input k := by rw [s.arbiter_eq]; rfl
@[simp] theorem output_arbiter (k : Fin 8) : s.arbiter.output k = s.output k := by
  rw [s.arbiter_eq]; rfl
@[simp] theorem reaction_arbiter (r : Fin 24) : s.arbiter.reaction r = s.reaction r := by
  rw [s.arbiter_eq]; rfl
@[simp] theorem run_arbiter (r : Fin 24) : s.arbiter.run r = s.run r := by rw [s.arbiter_eq]; rfl
@[simp] theorem filter_arbiter (f : Fin 16) : s.arbiter.filter f = s.filter f := by
  rw [s.arbiter_eq]; rfl

@[simp] theorem arbiter_state : s.arbiter.lc.state = s.lc.state := by rw [arbiter_lc]
@[simp] theorem arbiter_phase : s.arbiter.lc.phase = s.lc.phase := by rw [arbiter_lc]
@[simp] theorem arbiter_held : s.arbiter.lc.held = s.lc.held := by rw [arbiter_lc]
@[simp] theorem arbiter_holdInAwait : s.arbiter.lc.holdInAwait = s.lc.holdInAwait := by rw [arbiter_lc]
@[simp] theorem arbiter_holdFlag : s.arbiter.lc.holdFlag = s.lc.holdFlag := by rw [arbiter_lc]
@[simp] theorem arbiter_pulse : s.arbiter.lc.pulse = s.lc.pulse := by rw [arbiter_lc]
@[simp] theorem arbiter_failures : s.arbiter.lc.failures = s.lc.failures := by rw [arbiter_lc]
@[simp] theorem arbiter_inFlight : s.arbiter.lc.inFlight = s.lc.inFlight := by rw [arbiter_lc]
@[simp] theorem arbiter_frame : s.arbiter.lc.frame = s.lc.frame := by rw [arbiter_lc]
@[simp] theorem arbiter_quiet : s.arbiter.lc.quiet = s.lc.quiet := by rw [arbiter_lc]
@[simp] theorem arbiter_due : s.arbiter.lc.due = s.lc.due := by rw [arbiter_lc]
@[simp] theorem arbiter_stats : s.arbiter.lc.stats = s.lc.stats := by rw [arbiter_lc]
@[simp] theorem arbiter_dominantRun : s.arbiter.lc.dominantRun = s.lc.dominantRun := by rw [arbiter_lc]

/-- What a change of the choice alone leaves as it was, for the conditions of a choice. -/
@[simp] theorem mayChoose_setChoice (c : Option Choice) :
    (s.setLc { s.lc with choice := c }).mayChoose = s.mayChoose := rfl

@[simp] theorem isCandidate_setChoice (c : Option Choice) (x : Candidate) :
    (s.setLc { s.lc with choice := c }).isCandidate x = s.isCandidate x := by
  cases x <;> rfl

@[simp] theorem mayChoose_arbiter : s.arbiter.mayChoose = s.mayChoose := by
  rw [s.arbiter_eq]; exact s.mayChoose_setChoice _

@[simp] theorem isCandidate_arbiter (x : Candidate) : s.arbiter.isCandidate x = s.isCandidate x := by
  rw [s.arbiter_eq]; exact s.isCandidate_setChoice _ x

/-- Where no choice may be made and none is held, the arbiter does nothing. -/
theorem arbiter_of_not_mayChoose (hm : s.mayChoose = false) (hc : s.lc.choice = none) : s.arbiter = s := by
  simp [arbiter, dropChoice, hm, hc]

/-- The best candidate is a candidate. -/
theorem bestCandidate_isCandidate {c : Candidate} (h : s.bestCandidate = some c) :
    s.isCandidate c = true := by
  have key : ∀ (l : List Candidate) (held : Option Candidate),
      (∀ x ∈ l, s.isCandidate x = true) → (∀ x, held = some x → s.isCandidate x = true) →
      ∀ x, l.foldl s.better held = some x → s.isCandidate x = true := by
    intro l
    induction l with
    | nil => intro held _ hh x hx; exact hh x hx
    | cons a t ih =>
      intro held hl hh x hx
      refine ih (s.better held a) (fun y hy => hl y (List.mem_cons_of_mem _ hy)) ?_ x hx
      intro y hy
      unfold better at hy
      cases held with
      | none => exact (Option.some.inj hy) ▸ hl a List.mem_cons_self
      | some z =>
        simp only at hy
        split at hy
        · exact (Option.some.inj hy) ▸ hl a List.mem_cons_self
        · exact (Option.some.inj hy) ▸ hh z rfl
  refine key _ none ?_ (fun x hx => by cases hx) c h
  intro x hx
  exact (List.mem_filter.mp hx).2

/-- A choice that the arbiter leaves held stands: one may be held, and it is of a candidate. -/
theorem arbiter_choice_stands {c : Choice} (h : s.arbiter.lc.choice = some c) :
    s.mayChoose = true ∧ s.isCandidate c.candidate = true := by
  unfold arbiter at h
  dsimp only at h
  by_cases hd : (s.dropChoice.mayChoose && s.dropChoice.lc.choice == none) = true
  · rw [if_pos hd] at h
    have hm : s.dropChoice.mayChoose = true := by
      simp only [Bool.and_eq_true] at hd; exact hd.1
    have same : s.dropChoice.mayChoose = s.mayChoose
        ∧ ∀ x, s.dropChoice.isCandidate x = s.isCandidate x := by
      rcases s.dropChoice_eq with e | e <;> rw [e]
      · exact ⟨rfl, fun _ => rfl⟩
      · exact ⟨rfl, fun x => s.isCandidate_setChoice _ x⟩
    refine ⟨same.1 ▸ hm, ?_⟩
    obtain ⟨x, hx, hc⟩ := Option.map_eq_some_iff.mp h
    rw [← hc, ← same.2]
    exact s.dropChoice.bestCandidate_isCandidate hx
  · rw [if_neg hd] at h
    unfold dropChoice at h
    cases hc : s.lc.choice with
    | none => simp [hc] at h
    | some d =>
      simp only [hc] at h
      split at h
      · rename_i hcond
        rw [hc] at h
        cases Option.some.inj h
        simp only [Bool.and_eq_true] at hcond
        exact ⟨hcond.2, hcond.1⟩
      · simp at h

/-! ## Other operations -/

@[simp] theorem ripen_eq_setLc :
    s.ripen = s.setLc { s.lc with choice := s.lc.choice.map fun c => { c with due := true } } := rfl

/-- A counted event changes its counter and BUS_ERROR. -/
theorem countStat_eq (c : Stat) : s.countStat c
    = (s.setLc { s.lc with stats := s.lc.stats.set c.ix (min (s.lc.stats[c.ix] + 1) 255) }).setFlag .busError :=
  rfl

@[simp] theorem clearStats_eq : s.clearStats = s.setLc { s.lc with stats := Vector.replicate 11 0 } := rfl

/-- The release of a reservation changes the obligation entries alone. -/
theorem releaseVerdict_eq : s.releaseVerdict = s ∨
    ∃ o, (s.obl o).state = .reserved ∧ s.releaseVerdict = s.setObl o Obligation.free := by
  unfold releaseVerdict
  split
  · split
    · rename_i h; exact Or.inr ⟨_, h, rfl⟩
    · exact Or.inl rfl
  · exact Or.inl rfl

/-- A settlement: the entry, the report, and the choice of its WITHDRAW. -/
theorem settleCall_eq (k : Fin 8) (o : CallOutcome) : s.settleCall k o
    = (((s.setCall k { (s.call k).giveUp o with
        state := .settled, outcome := some o, settledAt := s.now, withdrawPending := false, expiring := false
        }).setFlag .callSettled).addCallSettled k).arbiter := rfl

/-- A new request answers none only for want of a FREE entry. -/
theorem newRequest_none {i : Fin 8} (h : s.newRequest i = none) :
    (s.slot i).kind = .call ∧ s.lowestFreeCall = none := by
  unfold newRequest at h
  split at h
  · cases h
  · rename_i hk
    split at h
    · rename_i hf; exact ⟨hk, hf⟩
    · cases h

/-- The entry that a reservation takes is FREE, and every lower one is not. -/
theorem lowestFreeCall_some {k : Fin 8} (h : s.lowestFreeCall = some k) :
    (s.call k).state = .free := by
  have := List.find?_some h
  simpa using this

/-- An arming or disarming changes the run state of its entry alone. -/
theorem armReaction_eq (r : Fin 24) : s.armReaction r = s ∨ ∃ x, s.armReaction r = s.setRun r x := by
  unfold armReaction; split <;> first | exact Or.inr ⟨_, rfl⟩ | exact Or.inl rfl

theorem disarmReaction_eq (r : Fin 24) : s.disarmReaction r = s ∨ ∃ x, s.disarmReaction r = s.setRun r x := by
  unfold disarmReaction; split <;> first | exact Or.inr ⟨_, rfl⟩ | exact Or.inl rfl

end State

end Sys2Proof.Machine
end

