-- ==== Sys2Proof/Laws/Tasks.lean ====
section
/-! SUPPORT. What a taking and the events of one instant keep: a property kept by every single step of
them is kept by the whole. -/

namespace Sys2Proof.Machine

/-! ## Takings (R138, R139, R145) -/

/-- A pass of firings keeps what each firing keeps. -/
theorem firingPass_keeps {P : State → Prop} (o : Occurrence)
    (fire : ∀ s r, P s → P (s.fire r).state) (l : List (Fin 24)) (p : State × List Occurrence)
    (h : P p.1) : P (l.foldl (firingTurn o) p).1 := by
  induction l generalizing p with
  | nil => exact h
  | cons r t ih =>
    refine ih _ ?_
    unfold firingTurn
    split
    · exact fire _ _ h
    · exact h

/-- A pass at depth 5 keeps what each suppression keeps. -/
theorem suppressedPass_keeps {P : State → Prop} (root : Root) (o : Occurrence)
    (supp : ∀ s r o root, P s → P (s.suppress r o root)) (l : List (Fin 24)) (s : State) (h : P s) :
    P (l.foldl (suppressedTurn root o) s) := by
  induction l generalizing s with
  | nil => exact h
  | cons r t ih =>
    refine ih _ ?_
    unfold suppressedTurn
    split
    · exact supp _ _ _ _ h
    · exact h

/-- A taking keeps what every firing and every suppression keeps. -/
theorem taking_keeps {P : State → Prop} (fire : ∀ s r, P s → P (s.fire r).state)
    (supp : ∀ s r o root, P s → P (s.suppress r o root)) (n : Nat) (root : Root) (o : Occurrence)
    (s : State) (h : P s) : P (taking n root o s) := by
  induction n generalizing o s with
  | zero => exact suppressedPass_keeps root o supp _ s h
  | succ n ih =>
    have key : ∀ (l : List Occurrence) (t : State), P t → P (l.foldl (fun t x => taking n root x t) t) := by
      intro l
      induction l with
      | nil => intro t ht; exact ht
      | cons x l ihl => intro t ht; exact ihl _ (ih x t ht)
    rw [taking]
    exact key _ _ (firingPass_keeps o fire (List.finRange 24) (s, []) h)

/-- An occurrence handed to the engine keeps what every firing and every suppression keeps. -/
theorem take_keeps {P : State → Prop} (fire : ∀ s r, P s → P (s.fire r).state)
    (supp : ∀ s r o root, P s → P (s.suppress r o root)) (o : Occurrence) (s : State) (h : P s) :
    P (s.take o) := by
  unfold State.take
  split
  · exact h
  · exact taking_keeps fire supp Config.chainLimit (.occurrence o) o s h

/-- The chain of a forced firing keeps what every firing and every suppression keeps. -/
theorem takeForced_keeps {P : State → Prop} (fire : ∀ s r, P s → P (s.fire r).state)
    (supp : ∀ s r o root, P s → P (s.suppress r o root)) (r : Fin 24) (l : List Occurrence) (s : State)
    (h : P s) : P (s.takeForced r l) := by
  unfold State.takeForced
  induction l generalizing s with
  | nil => exact h
  | cons x l ih =>
    rw [List.foldl_cons]
    exact ih (taking (Config.chainLimit - 1) (.force r) x s)
      (taking_keeps (P := P) fire supp (Config.chainLimit - 1) (.force r) x s h)

/-- In CONFIG an occurrence is discarded (R137). -/
theorem take_config (s : State) (o : Occurrence) (h : s.lc.state = .config) : s.take o = s := by
  simp [State.take, h]

/-! ## The events of one instant -/

/-- The events of one instant keep what every task and the use of the free value keep. -/
theorem runTasks_keeps {P : State → Prop} (task : ∀ s (t : Task), P s → P (t.run s).1)
    (free : ∀ s n, P s → P { s with freeCount := n }) (n : Nat) (series : List (List Task)) (s : State)
    (h : P s) : P (runTasks n series s) := by
  induction n generalizing series s with
  | zero => exact h
  | succ n ih =>
    have hn : P (nextSeries s (series.filter fun q => !q.isEmpty)).2 := by
      unfold nextSeries
      split
      · exact free _ _ h
      · exact h
    unfold runTasks
    dsimp only
    split
    · exact ih _ _ (task _ _ hn)
    · exact h

theorem settleTasks_keeps {P : State → Prop} (task : ∀ s (t : Task), P s → P (t.run s).1)
    (free : ∀ s n, P s → P { s with freeCount := n }) (series : List (List Task)) (s : State) (h : P s) :
    P (s.settleTasks series) := runTasks_keeps task free _ series s h

/-- Every task of the series is the taking of an occurrence. -/
def OnlyTakings (series : List (List Task)) : Prop := ∀ q ∈ series, ∀ t ∈ q, ∃ o, t = .take o

theorem onlyTakings_separately (l : List Occurrence) : OnlyTakings (separately l) := by
  intro q hq t ht
  obtain ⟨o, _, rfl⟩ := List.mem_map.mp hq
  exact ⟨o, List.mem_singleton.mp ht⟩

theorem onlyTakings_inSeries (l : List Occurrence) : OnlyTakings (inSeries l) := by
  intro q hq t ht
  rw [inSeries, List.mem_singleton] at hq
  subst hq
  obtain ⟨o, _, rfl⟩ := List.mem_map.mp ht
  exact ⟨o, rfl⟩

theorem onlyTakings_append {a b : List (List Task)} (ha : OnlyTakings a) (hb : OnlyTakings b) :
    OnlyTakings (a ++ b) := by
  intro q hq
  rcases List.mem_append.mp hq with h | h
  · exact ha q h
  · exact hb q h

/-- Takings alone keep what every taking and the use of the free value keep. -/
theorem settleTakings_keeps {P : State → Prop} (take : ∀ s o, P s → P (State.take s o))
    (free : ∀ s n, P s → P { s with freeCount := n }) (series : List (List Task))
    (only : OnlyTakings series) (s : State) (h : P s) : P (s.settleTasks series) := by
  suffices key : ∀ n series s, OnlyTakings series → P s → P (runTasks n series s) from key _ _ _ only h
  intro n
  induction n with
  | zero => intro _ s _ hs; exact hs
  | succ n ih =>
    intro series s only hs
    have hn : P (nextSeries s (series.filter fun q => !q.isEmpty)).2 := by
      unfold nextSeries
      split
      · exact free _ _ hs
      · exact hs
    unfold runTasks
    dsimp only
    split
    · rename_i t rest hget
      have hmem := List.mem_of_getElem? hget
      have hlive : OnlyTakings (series.filter fun q => !q.isEmpty) :=
        fun q hq => only q (List.mem_of_mem_filter hq)
      obtain ⟨o, rfl⟩ := hlive _ hmem t List.mem_cons_self
      refine ih _ _ ?_ (take _ o hn)
      intro q hq
      rcases List.mem_or_eq_of_mem_set hq with h1 | h1
      · exact hlive q h1
      · subst h1
        intro t ht
        exact hlive _ hmem t (List.mem_cons_of_mem _ (by simpa [Task.run] using ht))
    · exact hs

/-- Where nothing is handed on, nothing follows. -/
@[simp] theorem settleTasks_nil (s : State) : s.settleTasks [] = s := by
  simp [State.settleTasks, taskBound, runTasks, nextSeries, orderOpen]

theorem runTasks_done (n : Nat) (s : State) : runTasks n [[]] s = s := by
  cases n with
  | zero => rfl
  | succ n => simp [runTasks, nextSeries, orderOpen]

/-- A single event that hands nothing on is that event. -/
theorem settleTasks_single (s : State) (t : Task) (h : (t.run s).2 = []) :
    s.settleTasks [[t]] = (t.run s).1 := by
  have : runTasks 64 [[t]] s = runTasks 63 [[]] (t.run s).1 := by
    conv_lhs => unfold runTasks
    simp [nextSeries, orderOpen, h]
  show runTasks 64 [[t]] s = _
  rw [this, runTasks_done]

/-- A single occurrence is taken. -/
@[simp] theorem settleTasks_take (s : State) (o : Occurrence) : s.settleTasks [[.take o]] = s.take o :=
  settleTasks_single s (.take o) rfl

/-- A single choice is the arbiter's. -/
@[simp] theorem settleTasks_choose (s : State) : s.settleTasks [[.choose]] = s.arbiter :=
  settleTasks_single s .choose rfl

@[simp] theorem separately_nil : separately [] = [] := rfl

@[simp] theorem separately_single (o : Occurrence) : separately [o] = [[.take o]] := rfl

end Sys2Proof.Machine
end

