-- ==== Sys2Proof/Laws/Engine.lean ====
section
/-! SUPPORT. What the Reaction Engine's operations can change: each update that an action is built from, each
action, a firing and a suppression leave all but what actions name as it was. -/

namespace Sys2Proof.Machine

/-! ## The relation -/

theorem State.SameBesidesActions.refl (s : State) : s.SameBesidesActions s := by constructor <;> simp

theorem State.SameBesidesActions.trans {s t u : State} (h : s.SameBesidesActions t)
    (k : t.SameBesidesActions u) : s.SameBesidesActions u where
  ports := by have := h.ports; have := k.ports; simp_all
  received := by have := h.received; have := k.received; simp_all
  verdict := by have := h.verdict; have := k.verdict; simp_all
  time := by have := h.time; have := k.time; simp_all
  definitions := by have := h.definitions; have := k.definitions; simp_all
  link := by rw [k.link, h.link]
  events := by rw [k.events, h.events]
  flags := fun f a b => (k.flags f a b).trans (h.flags f a b)
  set_flags := fun f a => k.set_flags f (h.set_flags f a)
  slots := fun i => by have := h.slots i; have := k.slots i; simp_all
  calls := fun i hi => by
    have a := h.calls i hi
    have b := k.calls i (by rw [a]; exact hi)
    rw [b, a]
  obligations := fun i hi => by
    have a := h.obligations i hi
    have b := k.obligations i (by rw [a]; exact hi)
    rw [b, a]
  timers := fun i => by have := h.timers i; have := k.timers i; simp_all
  counters := fun i => by have := h.counters i; have := k.counters i; simp_all
  trains := fun i => by have := h.trains i; have := k.trains i; simp_all
  outputs := fun i => by have := h.outputs i; have := k.outputs i; simp_all

/-! ## The updates that actions are built from -/

theorem same_setFlag (s : State) (f : Flag) (hf : f = .reactLimit ∨ f = .reactNotice) :
    s.SameBesidesActions (s.setFlag f) := by
  constructor <;> simp [flag_setFlag] <;> try (intros; simp_all)

theorem same_setRun (s : State) (r : Fin 24) (x : ReactionRun) : s.SameBesidesActions (s.setRun r x) := by
  constructor <;> simp [State.flag]

theorem same_setTimer (s : State) (t : Fin 4) (x : Timer) (h : x.mode = (s.timer t).mode) :
    s.SameBesidesActions (s.setTimer t x) := by
  constructor <;> simp [State.flag, State.timer_setTimer]
  intro y
  split <;> simp_all

theorem same_setTrain (s : State) (g : Fin 2) (x : Train) (h : x.line = (s.train g).line
    ∧ x.period = (s.train g).period ∧ x.width = (s.train g).width ∧ x.count = (s.train g).count) :
    s.SameBesidesActions (s.setTrain g x) := by
  constructor <;> simp [State.flag, State.train_setTrain]
  constructor <;> split <;> simp_all

theorem same_setCounter (s : State) (c : Fin 2) (x : Counter) (h : x.source = (s.counter c).source
    ∧ x.edge = (s.counter c).edge ∧ x.compare = (s.counter c).compare) :
    s.SameBesidesActions (s.setCounter c x) := by
  constructor <;> simp [State.flag, State.counter_setCounter]
  constructor <;> split <;> simp_all

theorem same_setOutput (s : State) (k : Fin 8) (x : OutputLine) (h : x.rest = (s.output k).rest
    ∧ x.owner = (s.output k).owner) : s.SameBesidesActions (s.setOutput k x) := by
  constructor <;> simp [State.flag, State.output_setOutput]
  intro y
  split <;> simp_all

theorem same_driveOutput (s : State) (k : Fin 8) (level : Bool) :
    s.SameBesidesActions (s.driveOutput k level) := same_setOutput _ _ _ ⟨rfl, rfl⟩

theorem same_arbiter (s : State) : s.SameBesidesActions s.arbiter := by
  constructor <;> simp [State.flag]
  rw [State.arbiter_lc]

theorem same_setSlot (s : State) (i : Fin 8) (x : Slot) (h : x.priority = (s.slot i).priority
    ∧ x.kind = (s.slot i).kind ∧ x.topic = (s.slot i).topic ∧ x.payload = (s.slot i).payload
    ∧ x.deadline = (s.slot i).deadline ∧ x.lastCode = (s.slot i).lastCode ∧ x.abort = (s.slot i).abort
    ∧ x.sentAt = (s.slot i).sentAt) : s.SameBesidesActions (s.setSlot i x) := by
  constructor <;> simp [State.flag, State.slot_setSlot]
  intro y
  split <;> simp_all

/-- A FREE call entry may be taken. -/
theorem same_setCall (s : State) (k : Fin 8) (x : CallEntry) (h : (s.call k).state = .free) :
    s.SameBesidesActions (s.setCall k x) := by
  constructor <;> simp [State.flag, State.call_setCall]
  intro y a b
  simp_all

/-- An OPEN obligation may be finished. -/
theorem same_setObl (s : State) (o : Fin 8) (x : Obligation) (h : (s.obl o).state = .opened) :
    s.SameBesidesActions (s.setObl o x) := by
  constructor <;> simp [State.flag, State.obl_setObl]
  intro y a b
  simp_all

theorem same_setPulse (s : State) (n : Nat) (d : List LineEvent) :
    s.SameBesidesActions (s.setLc { s.lc with pulse := n, due := d }) := by
  constructor <;> simp [State.flag]

theorem same_setEngine (s : State) (x : ReactionEngine) (h : x.defs = s.re.defs) :
    s.SameBesidesActions { s with re := x } := by
  constructor <;> simp [State.flag, State.slot, State.call, State.obl, State.timer, State.counter, State.train,
    State.output, State.now, h]

theorem same_setFreeCount (s : State) (n : Nat) : s.SameBesidesActions { s with freeCount := n } := by
  constructor <;> simp [State.flag, State.slot, State.call, State.obl, State.timer, State.counter, State.train,
    State.output, State.now]

/-! ## Actions, firings and suppressions -/

theorem same_newRequest {s t : State} {i : Fin 8} (h : s.newRequest i = some t) :
    s.SameBesidesActions t := by
  unfold State.newRequest at h
  split at h
  · cases h
    exact (same_setSlot _ _ _ (by simp [Slot.requested])).trans (same_arbiter _)
  · split at h
    · cases h
    · rename_i k hk
      cases h
      exact State.SameBesidesActions.trans (t := s.reserveCall i k)
        (same_setCall _ _ _ (s.lowestFreeCall_some hk))
        ((same_setSlot _ _ _ (by simp [Slot.requested, State.reserveCall])).trans (same_arbiter _))

theorem same_requestSlot (s : State) (i : Fin 8) : s.SameBesidesActions (s.requestSlot i).1 := by
  unfold State.requestSlot
  split
  · exact State.SameBesidesActions.refl s
  · exact State.SameBesidesActions.refl s
  · exact same_setSlot _ _ _ (by simp)
  all_goals
    split
    · rename_i h; exact same_newRequest h
    · exact State.SameBesidesActions.refl s

/-- The obligation that FINISH selects is OPEN and enrolled by the filter named. -/
theorem oldestOpen_some {s : State} {f : Fin 16} {o : Fin 8} (h : s.oldestOpen f = some o) :
    (s.obl o).state = .opened ∧ (s.obl o).filter = f := by
  have key : ∀ (l : List (Fin 8)) (held : Option (Fin 8)),
      l.foldl s.older held = some o → o ∈ l ∨ held = some o := by
    intro l
    induction l with
    | nil => intro held h; exact Or.inr h
    | cons a t ih =>
      intro held h
      rcases ih _ h with h | h
      · exact Or.inl (List.mem_cons_of_mem _ h)
      · unfold State.older at h
        split at h
        · cases h; exact Or.inl List.mem_cons_self
        · split at h <;> cases h
          · exact Or.inl List.mem_cons_self
          · exact Or.inr rfl
  rcases key _ _ h with h | h
  · simpa using (List.mem_filter.mp h).2
  · cases h

theorem same_perform (s : State) (r : Fin 24) : s.SameBesidesActions (s.perform r).state := by
  unfold State.perform
  dsimp only
  split
  · unfold State.actSend
    split <;> try exact State.SameBesidesActions.refl s
    all_goals
      have := same_requestSlot s (ix 8 (s.reaction r).target)
      split <;> simp_all
  · unfold State.actTimerStart State.startTimer
    split
    · exact same_setTimer _ _ _ rfl
    · refine State.SameBesidesActions.trans (same_setTimer _ _ _ ?_) (same_setTimer _ _ _ ?_) <;> rfl
  · exact same_setTimer _ _ _ rfl
  · unfold State.startTrain State.driveTrain
    refine State.SameBesidesActions.trans (same_setTrain _ _ _ ?_) (same_driveOutput _ _ _)
    exact ⟨rfl, rfl, rfl, rfl⟩
  · unfold State.stopTrain
    dsimp only
    split
    · split <;> exact same_setTrain _ _ _ ⟨rfl, rfl, rfl, rfl⟩
    · exact State.SameBesidesActions.refl s
  iterate 3
    · unfold State.actOutput
      split
      · exact same_driveOutput _ _ _
      · exact State.SameBesidesActions.refl s
  · exact same_setCounter _ _ _ ⟨rfl, rfl, rfl⟩
  · rcases State.armReaction_eq s (ix 24 (s.reaction r).target) with h | ⟨x, h⟩ <;> rw [h]
    · exact State.SameBesidesActions.refl s
    · exact same_setRun _ _ _
  · rcases State.disarmReaction_eq s (ix 24 (s.reaction r).target) with h | ⟨x, h⟩ <;> rw [h]
    · exact State.SameBesidesActions.refl s
    · exact same_setRun _ _ _
  · unfold State.actFinish
    split
    · rename_i o ho
      exact (same_setObl _ _ _ (oldestOpen_some ho).1).trans (same_arbiter _)
    · exact State.SameBesidesActions.refl s
  · unfold State.actHoldPulse
    split
    · exact (same_setPulse _ _ _).trans (same_arbiter _)
    · exact State.SameBesidesActions.refl s
  · unfold State.actNotify
    refine State.SameBesidesActions.trans (t := { s with re := { s.re with
      runs := s.re.runs.set r { s.run r with lastNotice := lo16 (s.reaction r).parameter }
      notices := withBit s.re.notices r.val } }) (same_setEngine _ _ rfl) (same_setFlag _ _ (Or.inr rfl))

theorem same_noteRefusal (s : State) (r : Fin 24) (x : ActionResult) :
    s.SameBesidesActions (s.noteRefusal r x) := by
  unfold State.noteRefusal
  split
  · exact State.SameBesidesActions.refl s
  · refine State.SameBesidesActions.trans ?_ (same_setFlag _ _ (Or.inl rfl))
    exact same_setEngine s _ rfl

/-- A firing leaves all but what actions name as it was. -/
theorem same_fire (s : State) (r : Fin 24) : s.SameBesidesActions (s.fire r).state :=
  (same_perform s r).trans ((same_setRun _ _ _).trans (same_noteRefusal _ _ _))

/-- A suppression sets its record and REACT_LIMIT alone. -/
theorem same_suppress (s : State) (r : Fin 24) (o : Occurrence) (root : Root) :
    s.SameBesidesActions (s.suppress r o root) := by
  refine State.SameBesidesActions.trans ?_ (same_setFlag _ _ (Or.inl rfl))
  exact same_setEngine s _ rfl

end Sys2Proof.Machine
end

