-- ==== Sys2Proof/Laws/Events.lean ====
section
/-! SUPPORT. Line events and events of a time step: what carrying them out keeps. -/

namespace Sys2Proof.Machine

/-- An event carried out keeps what its operation keeps once it no longer waits. -/
theorem carryFirst_keeps {P : State → Prop} (s : State) (p : LineEvent → Bool)
    (erase : ∀ (s : State) (e : LineEvent), P s → P (s.setLc { s.lc with due := s.lc.due.erase e }))
    (carry : ∀ (s : State) (e : LineEvent), s.lc.permits e = true → P s → P (s.carryOut e)) (h : P s) :
    P (s.carryFirst p) := by
  unfold State.carryFirst
  split
  · rename_i e _
    dsimp only
    split
    · rename_i hp
      exact carry _ _ hp (erase _ _ h)
    · exact erase _ _ h
  · exact h

theorem drainLine_keeps {P : State → Prop} (n : Nat) (s : State)
    (erase : ∀ (s : State) (e : LineEvent), P s → P (s.setLc { s.lc with due := s.lc.due.erase e }))
    (carry : ∀ (s : State) (e : LineEvent), s.lc.permits e = true → P s → P (s.carryOut e)) (h : P s) :
    P (drainLine n s) := by
  induction n generalizing s with
  | zero => exact h
  | succ n ih => exact ih _ (carryFirst_keeps s _ erase carry h)

theorem foldl_keeps {α : Type} {P : State → Prop} (f : State → α → State)
    (step : ∀ s a, P s → P (f s a)) (l : List α) (s : State) (h : P s) : P (l.foldl f s) := by
  induction l generalizing s with
  | nil => exact h
  | cons a t ih => exact ih _ (step _ _ h)

/-- What every event of a time step keeps, all that wait from one keep. -/
theorem drainTime_keeps {P : State → Prop} (s : State) (edge : ∀ s k, P s → P (s.edgeInput k))
    (timer : ∀ s t, P s → P (s.expireTimer t)) (lead : ∀ s g, P s → P (s.leadTrain g))
    (trail : ∀ s g, P s → P (s.trailTrain g)) (call : ∀ s k, P s → P (s.expireCall k)) (h : P s) :
    P s.drainTime := by
  unfold State.drainTime
  refine foldl_keeps _ call _ _ (foldl_keeps _ ?_ _ _ (foldl_keeps _ timer _ _ (foldl_keeps _ edge _ _ h)))
  intro s g hs
  unfold State.edgeTrain
  split
  · exact lead _ _ hs
  · exact trail _ _ hs

/-- What every waiting event keeps, all of them keep. -/
theorem settleDue_keeps {P : State → Prop} (s : State)
    (erase : ∀ (s : State) (e : LineEvent), P s → P (s.setLc { s.lc with due := s.lc.due.erase e }))
    (carry : ∀ (s : State) (e : LineEvent), s.lc.permits e = true → P s → P (s.carryOut e))
    (edge : ∀ s k, P s → P (s.edgeInput k)) (timer : ∀ s t, P s → P (s.expireTimer t))
    (lead : ∀ s g, P s → P (s.leadTrain g)) (trail : ∀ s g, P s → P (s.trailTrain g))
    (call : ∀ s k, P s → P (s.expireCall k)) (h : P s) : P s.settleDue :=
  drainTime_keeps _ edge timer lead trail call (drainLine_keeps _ _ erase carry h)

/-- An event that waits and that its rule's condition permits is carried out. -/
theorem carryFirst_of_mem (s : State) (e : LineEvent) (h : e ∈ s.lc.due) (hp : s.lc.permits e = true) :
    s.carryFirst (· == e) = (s.setLc { s.lc with due := s.lc.due.erase e }).carryOut e := by
  have hf : s.lc.due.find? (· == e) = some e := by
    cases hx : s.lc.due.find? (· == e) with
    | none =>
      have := List.find?_eq_none.mp hx e h
      simp at this
    | some x =>
      have := List.find?_some hx
      simp only [beq_iff_eq] at this
      rw [this]
  simp only [State.carryFirst, hf]
  exact if_pos hp

/-- Where no event that the row names waits, the row changes nothing. -/
theorem carryFirst_of_none (s : State) (p : LineEvent → Bool) (h : ∀ e ∈ s.lc.due, p e = false) :
    s.carryFirst p = s := by
  have hf : s.lc.due.find? p = none := List.find?_eq_none.mpr fun e he => by simp [h e he]
  simp [State.carryFirst, hf]

/-! ## The bit time -/

/-- Outside the line BUSTX is released (R1). -/
theorem busTx_of_out (s : State) (h : s.lc.phase = .out) : s.busTx = .recessive := if_pos h

/-- On the line BUSTX has the level that the next sample point finds driven (R1). -/
theorem busTx_of_ne_out (s : State) (h : s.lc.phase ≠ .out) : s.busTx = s.inBitTime.driven := if_neg h

/-- On the line a sample point reads the bit that BUSTX was driven in. -/
theorem execSamplePoint_of_ne_out (s : State) (level : Level) (h : s.lc.phase ≠ .out) :
    execSamplePoint level s = .next (s.inBitTime.readBit level) := by simp [execSamplePoint, h]

/-- A station with its SOF to drive drives it dominant (R12). -/
theorem driven_driveSof (s : State) (c : Candidate) (h : s.lc.state = .active) :
    (s.driveSof c).driven = .dominant := by
  have ha : (s.driveSof c).lc.state = .active := by
    unfold State.driveSof State.markSending
    cases c <;> exact h
  have hf : (s.driveSof c).lc.frame = some (Frame.start .transmitter .sof (s.candidateBits c)) := by
    unfold State.driveSof State.markSending
    cases c <;> rfl
  simp only [State.driven, hf, ha, if_true]
  split <;> rfl

end Sys2Proof.Machine
end

