-- ==== Sys2Proof/Laws/Instant.lean ====
section
/-! SUPPORT. The events of one instant where no entry is bound to any occurrence: nothing fires, the order makes
no difference, and each event is carried out in its turn (R138; log 4). -/

namespace Sys2Proof.Machine

/-- Whether an entry is bound to an occurrence rests on the definitions alone (R132). -/
theorem bound_of_defs {s t : State} (h : t.re.defs = s.re.defs) (o : Occurrence) : t.bound o = s.bound o := by
  simp [State.bound, State.reaction, h]

/-- An occurrence to which no entry is bound reaches none. -/
theorem reached_of_unbound (s : State) (h : ∀ o, s.bound o = false) (r : Fin 24) (o : Occurrence) :
    s.reached r o = false := by
  have := List.any_eq_false.mp (h o) r (List.mem_finRange r)
  simp [State.reached, Bool.not_eq_true _ ▸ this]

/-- The taking of an occurrence to which no entry is bound changes nothing, at any depth. -/
theorem taking_of_unbound (n : Nat) (root : Root) (o : Occurrence) (s : State) (h : ∀ o, s.bound o = false) :
    taking n root o s = s := by
  have hr := reached_of_unbound s h
  cases n with
  | zero =>
    rw [taking]
    generalize List.finRange 24 = l
    induction l with
    | nil => rfl
    | cons r t ih => rw [List.foldl_cons]; simpa [suppressedTurn, hr] using ih
  | succ n =>
    rw [taking]
    have : ∀ l : List (Fin 24), l.foldl (firingTurn o) (s, []) = (s, []) := by
      intro l
      induction l with
      | nil => rfl
      | cons r t ih => rw [List.foldl_cons]; simpa [firingTurn, hr] using ih
    simp [this]

theorem take_of_unbound (s : State) (h : ∀ o, s.bound o = false) (o : Occurrence) : s.take o = s := by
  unfold State.take
  split
  · rfl
  · exact taking_of_unbound _ _ _ _ h

/-- No event leads to a firing. -/
theorem mayFire_of_unbound (s : State) (h : ∀ o, s.bound o = false) (t : Task) : t.mayFire s = false := by
  cases t <;> simp [Task.mayFire, h]

theorem offerRecord_re (s : State) (r : RxRecord) : (s.offerRecord r).re = s.re := by
  unfold State.offerRecord; split <;> rfl

theorem settleCall_re (s : State) (k : Fin 8) (o : CallOutcome) : (s.settleCall k o).re = s.re := by
  unfold State.settleCall
  rw [State.arbiter_re]; rfl

/-- No event changes the Reaction Engine. -/
theorem run_re_of_unbound (s : State) (h : ∀ o, s.bound o = false) (t : Task) : (t.run s).1.re = s.re := by
  cases t with
  | take o => simp [Task.run, take_of_unbound s h]
  | matchFrame x =>
    simp only [Task.run, State.matchFrame]
    split
    · rfl
    · dsimp only; split
      · rw [offerRecord_re]; rfl
      · rfl
  | openObligation =>
    simp only [Task.run, State.openObligation]
    split
    · split <;> rfl
    · unfold State.breakVerdict State.releaseVerdict
      split <;> (try split) <;> rfl
  | doneArrival x =>
    simp only [Task.run, State.doneArrival]
    split
    · unfold State.collectDone
      dsimp only; split
      · rw [settleCall_re]; rfl
      · rfl
    · split <;> rfl
  | withdrawArrival x =>
    simp only [Task.run, State.withdrawArrival]
    split
    · split
      · rfl
      · rw [State.arbiter_re]; rfl
    · rfl
  | choose => exact s.arbiter_re
  | count c k e =>
    simp only [Task.run, State.countEdge]
    split <;> rfl

/-- After an event no entry is bound, as before it. -/
theorem run_unbound (s : State) (h : ∀ o, s.bound o = false) (t : Task) : ∀ o, (t.run s).1.bound o = false := by
  intro o
  exact (bound_of_defs (congrArg ReactionEngine.defs (run_re_of_unbound s h t)) o).trans (h o)

/-- The first series goes first, and no free value is used. -/
theorem nextSeries_of_unbound (s : State) (h : ∀ o, s.bound o = false) (l : List (List Task)) :
    nextSeries s l = (0, s) := by
  simp [nextSeries, orderOpen, mayFire_of_unbound s h]

/-- Where no entry is bound to any occurrence, the first event of the first series is carried out. -/
theorem runTasks_unbound_cons (n : Nat) (s : State) (h : ∀ o, s.bound o = false) (t : Task) (rest : List Task)
    (series : List (List Task)) : runTasks (n + 1) ((t :: rest) :: series) s
      = runTasks n (((t.run s).2.map .take ++ rest) :: series.filter fun q => !q.isEmpty) (t.run s).1 := by
  conv_lhs => unfold runTasks
  simp [nextSeries_of_unbound s h]

/-- Series without events left are passed over. -/
theorem runTasks_filter (n : Nat) (s : State) (series : List (List Task)) :
    runTasks n (series.filter fun q => !q.isEmpty) s = runTasks n series s := by
  cases n with
  | zero => rfl
  | succ n => unfold runTasks; simp only [List.filter_filter, Bool.and_self]

theorem runTasks_nil_cons (n : Nat) (s : State) (series : List (List Task)) :
    runTasks n ([] :: series) s = runTasks n series s := by
  rw [← runTasks_filter n s ([] :: series), ← runTasks_filter n s series]; simp

/-- The first event of the first series is carried out, and what it hands on goes before the rest. -/
theorem runTasks_unbound_step (n : Nat) (s : State) (h : ∀ o, s.bound o = false) (t : Task) (rest : List Task)
    (series : List (List Task)) : runTasks (n + 1) ((t :: rest) :: series) s
      = runTasks n (((t.run s).2.map .take ++ rest) :: series) (t.run s).1 := by
  rw [runTasks_unbound_cons n s h, ← runTasks_filter n _ (_ :: series), ← runTasks_filter n _ (_ :: List.filter _ _)]
  congr 1
  simp [List.filter_cons, List.filter_filter]

/-- What is handed on is taken without effect. -/
theorem runTasks_unbound_takes (l : List Occurrence) (n : Nat) (s : State) (h : ∀ o, s.bound o = false)
    (rest : List Task) (series : List (List Task)) :
    runTasks (n + l.length) ((l.map .take ++ rest) :: series) s = runTasks n (rest :: series) s := by
  induction l with
  | nil => rfl
  | cons o l ih =>
    show runTasks (n + l.length + 1) ((Task.take o :: (l.map .take ++ rest)) :: series) s = _
    rw [runTasks_unbound_step _ s h]
    simpa [Task.run, take_of_unbound s h] using ih

/-- The first event of the first series is carried out, with everything that it hands on. -/
theorem runTasks_unbound (n : Nat) (s : State) (h : ∀ o, s.bound o = false) (t : Task) (rest : List Task)
    (series : List (List Task)) : runTasks (n + (t.run s).2.length + 1) ((t :: rest) :: series) s
      = runTasks n (rest :: series) (t.run s).1 := by
  rw [runTasks_unbound_step _ s h, runTasks_unbound_takes _ _ _ (run_unbound s h t)]

/-- The most that an event hands on, itself counted. -/
def Task.most : Task → Nat
  | .matchFrame _ => 17
  | .take _ | .openObligation | .doneArrival _ | .withdrawArrival _ | .choose | .count _ _ _ => 2

theorem run_le_most (s : State) (t : Task) : (t.run s).2.length + 1 ≤ t.most := by
  cases t with
  | matchFrame x =>
    have hm : (s.matchingSet x.kind x.topic).length ≤ 16 := by
      unfold State.matchingSet
      exact (List.length_filter_le _ _).trans (by simp)
    simp only [Task.run, State.matchFrame, Task.most]
    split
    · simp
    · dsimp only
      rw [List.length_map]
      exact Nat.succ_le_succ ((List.length_filter_le _ _).trans hm)
  | openObligation => simp only [Task.run, State.openObligation, Task.most]; split <;> (try split) <;> simp
  | doneArrival x =>
    simp only [Task.run, State.doneArrival, State.collectDone, Task.most]
    split <;> (try split) <;> simp
  | withdrawArrival x => simp only [Task.run, State.withdrawArrival, Task.most]; split <;> (try split) <;> simp
  | take o => simp [Task.run, Task.most]
  | choose => simp [Task.run, Task.most]
  | count c k e => simp only [Task.run, State.countEdge, Task.most]; split <;> (try split) <;> simp

/-- The events of a series, each carried out in its turn. -/
def runSeries (s : State) (l : List Task) : State := l.foldl (fun t k => (k.run t).1) s

/-- The first series is carried out whole. -/
theorem runTasks_unbound_series (l : List Task) : ∀ (n : Nat) (s : State), (∀ o, s.bound o = false) →
    ∀ series : List (List Task), (l.map Task.most).sum ≤ n →
      ∃ m, m ≤ (l.map Task.most).sum ∧ runTasks n (l :: series) s = runTasks (n - m) series (runSeries s l)
        ∧ ∀ o, (runSeries s l).bound o = false := by
  induction l with
  | nil => intro n s h series _; exact ⟨0, Nat.le_refl _, runTasks_nil_cons n s series, h⟩
  | cons t rest ih =>
    intro n s h series hn
    have hm := run_le_most s t
    rw [List.map_cons, List.sum_cons] at hn ⊢
    obtain ⟨k, hk⟩ : ∃ k, n = k + (t.run s).2.length + 1 := ⟨n - ((t.run s).2.length + 1), by omega⟩
    obtain ⟨m, hle, heq, hu⟩ := ih k _ (run_unbound s h t) series (by omega)
    refine ⟨m + ((t.run s).2.length + 1), by omega, ?_, hu⟩
    rw [hk, runTasks_unbound k s h, heq]
    congr 1
    omega

/-- Every series is carried out whole, one after the other. -/
theorem runTasks_unbound_all (series : List (List Task)) : ∀ (n : Nat) (s : State), (∀ o, s.bound o = false) →
    (series.flatten.map Task.most).sum ≤ n → runTasks n series s = runSeries s series.flatten := by
  induction series with
  | nil => intro n s _ _; cases n <;> simp [runTasks, nextSeries, orderOpen, runSeries]
  | cons l series ih =>
    intro n s h hn
    rw [List.flatten_cons, List.map_append, List.sum_append] at hn
    obtain ⟨m, hle, heq, hu⟩ := runTasks_unbound_series l n s h series (by omega)
    rw [heq, ih _ _ hu (by omega), List.flatten_cons]
    simp [runSeries, List.foldl_append]

/-- The events of an instant where no entry is bound to any occurrence: one after the other, as they stand. -/
theorem settleTasks_unbound (s : State) (h : ∀ o, s.bound o = false) (series : List (List Task))
    (few : (series.flatten.map Task.most).sum ≤ taskBound) :
    s.settleTasks series = runSeries s series.flatten := runTasks_unbound_all series taskBound s h few

/-! ## What the owner of a settled attempt hands on (R66) -/

/-- Where the Reaction Engine is unchanged, no entry is bound, as before. -/
theorem unbound_of_re {s t : State} (h : ∀ o, s.bound o = false) (hr : t.re = s.re) : ∀ o, t.bound o = false :=
  fun o => (bound_of_defs (congrArg ReactionEngine.defs hr) o).trans (h o)

theorem newRequest_re {s t : State} {i : Fin 8} (h : s.newRequest i = some t) : t.re = s.re := by
  unfold State.newRequest at h
  split at h
  · injection h with h
    subst h
    rw [State.arbiter_re]
    rfl
  · split at h
    · cases h
    · injection h with h
      subst h
      rw [State.arbiter_re]
      rfl

theorem openCall_handed (s : State) (k : Fin 8) (l : List Byte) :
    (s.openCall k l).1.re = s.re ∧ (s.openCall k l).2.length ≤ 1 := by
  unfold State.openCall
  dsimp only
  split
  · exact ⟨(settleCall_re _ _ _).trans rfl, by simp⟩
  · exact ⟨rfl, by simp⟩

theorem endBinding_handed (s : State) (i : Fin 8) (d : DoneState) (l : List Byte) :
    (s.endBinding i d l).1.re = s.re ∧ (s.endBinding i d l).2.length ≤ 1 := by
  unfold State.endBinding
  split
  · split
    · exact openCall_handed _ _ _
    · exact ⟨rfl, by simp⟩
  · exact ⟨rfl, by simp⟩

theorem applyRerun_re (s : State) (i : Fin 8) : (s.applyRerun i).re = s.re := by
  unfold State.applyRerun
  split
  · split
    · rename_i h
      exact newRequest_re h
    · rfl
  · rfl

theorem arriveDone_handed (s : State) (i : Fin 8) (d : DoneState) (l : List Byte) :
    (s.arriveDone i d l).1.re = s.re ∧ (s.arriveDone i d l).2.length ≤ 2 := by
  have h := endBinding_handed (((s.setSlot i { s.slot i with state := d.slotState }).setFlag
    .slotDone).addSlotDone i) i d l
  refine ⟨(applyRerun_re _ _).trans (h.1.trans rfl), ?_⟩
  show (_ ++ [Occurrence.slotDone i d]).length ≤ 2
  rw [List.length_append]
  exact Nat.succ_le_succ h.2

theorem slotOutcome_handed (s : State) (i : Fin 8) (c : TxCode) (l : List Byte) :
    (s.slotOutcome i c l).1.re = s.re ∧ (s.slotOutcome i c l).2.length ≤ 2 := by
  have hr : ∀ x : Slot, (s.returnPending i x).1.re = s.re ∧ (s.returnPending i x).2.length ≤ 2 :=
    fun _ => ⟨(State.arbiter_re _).trans rfl, Nat.zero_le 2⟩
  have ha : ∀ (x : Slot) (d : DoneState) (l : List Byte), ((s.setSlot i x).arriveDone i d l).1.re = s.re
      ∧ ((s.setSlot i x).arriveDone i d l).2.length ≤ 2 :=
    fun x d l => arriveDone_handed (s.setSlot i x) i d l
  unfold State.slotOutcome
  dsimp only
  split <;> (try split) <;> (try split) <;> first | exact ha _ _ _ | exact hr _

theorem doneOutcome_re (s : State) (o : Fin 8) (c : TxCode) : (s.doneOutcome o c).re = s.re := by
  cases c <;> simp only [State.doneOutcome] <;> (try split) <;> rfl

theorem withdrawOutcome_handed (s : State) (k : Fin 8) (c : TxCode) :
    (s.withdrawOutcome k c).1.re = s.re ∧ (s.withdrawOutcome k c).2.length ≤ 2 := by
  unfold State.withdrawOutcome
  dsimp only
  split <;> (try split) <;> first | exact ⟨settleCall_re _ _ _, by simp⟩ | exact ⟨rfl, by simp⟩

/-- An owner leaves the Reaction Engine as it was, and hands on two occurrences at most. -/
theorem handOutcome_handed (s : State) (x : Candidate) (c : TxCode) (l : List Byte) :
    (s.handOutcome x c l).1.re = s.re ∧ (s.handOutcome x c l).2.length ≤ 2 := by
  unfold State.handOutcome
  dsimp only
  split
  · exact slotOutcome_handed _ _ _ _
  · exact ⟨doneOutcome_re _ _ _, Nat.zero_le 2⟩
  · exact withdrawOutcome_handed _ _ _

/-- Where no entry is bound, what an owner hands on has no effect, and the event beside it is carried out. -/
theorem settleTasks_handed (s : State) (h : ∀ o, s.bound o = false) (l : List Occurrence) (hl : l.length ≤ 2)
    (t : Task) : s.settleTasks (separately l ++ [[t]]) = (t.run s).1 := by
  match l, hl with
  | [], _ => rw [settleTasks_unbound s h _ (by cases t <;> simp [separately, Task.most, taskBound])]; rfl
  | [a], _ =>
    rw [settleTasks_unbound s h _ (by cases t <;> simp [separately, Task.most, taskBound])]
    simp [separately, runSeries, Task.run, take_of_unbound s h]
  | [a, b], _ =>
    rw [settleTasks_unbound s h _ (by cases t <;> simp [separately, Task.most, taskBound])]
    simp [separately, runSeries, Task.run, take_of_unbound s h]

end Sys2Proof.Machine
end

