-- ==== Sys2Proof/Laws/Port.lean ====
section
/-! SUPPORT. What a host command does, said once: the command in its own transaction, and the command that
needs a new one. -/

namespace Sys2Proof.Machine

/-- Where the transaction in progress can become the command's, nothing precedes its taking. -/
theorem beginTransaction_of_accepts (s : State) (bytes : List Byte) (h : s.hp.phase.accepts bytes = true) :
    s.beginTransaction bytes = s := by simp [State.beginTransaction, h]

/-- A host command in its own transaction: its taking, its reply, and the events handed on. -/
theorem hostCommand_of_accepts (s : State) (i : Instr) (body : State → Taken)
    (h : s.hp.phase.accepts ((encodeCommand i).getD []) = true) : s.hostCommand i body
      = (((body s).state.reply (body s).status (body s).data).settleTasks (body s).series) := by
  have hr : s.hp.phase ≠ .inReset := by
    intro hp
    rw [hp] at h
    exact Bool.false_ne_true h
  simp [State.hostCommand, hr, beginTransaction_of_accepts s _ h]

/-- While the RESET pin is held low a host command does nothing (R197). -/
theorem hostCommand_of_inReset (s : State) (i : Instr) (body : State → Taken) (h : s.hp.phase = .inReset) :
    s.hostCommand i body = s := if_pos h

/-- A host command that the port is ready for. -/
theorem hostCommand_of_ready {s : State} {c : Instr} (h : s.ready c) (body : State → Taken) :
    s.hostCommand c body
      = (((body s).state.reply (body s).status (body s).data).settleTasks (body s).series) := by
  obtain ⟨bytes, hb, ha⟩ := h
  exact hostCommand_of_accepts s c body (by simp [hb, ha])

/-- A command on a member of its table. -/
theorem indexed_of_val {n : Nat} [NeZero n] (b : Byte) (i : Fin n) (h : b.toNat = i.val)
    (body : Fin n → State → Taken) (s : State) : indexed n b body s = body i s := by
  simp [indexed, h, ix_of_val b i h]

/-- A command on a member beyond its table. -/
theorem indexed_of_le {n : Nat} [NeZero n] (b : Byte) (h : n ≤ b.toNat) (body : Fin n → State → Taken)
    (s : State) : indexed n b body s = .refuse s .range := by simp [indexed, Nat.not_lt.mpr h]

/-- A host command keeps what the port, its taking and the events handed on keep. -/
theorem hostCommand_keeps {P : State → Prop} (s : State) (i : Instr) (body : State → Taken)
    (port : P s → P ((s.riseHcs true).fallHcs)) (taking : ∀ t, P t → P (body t).state)
    (reply : ∀ t st data, P t → P (t.reply st data))
    (tasks : ∀ t series, P t → P (t.settleTasks series)) (h : P s) : P (s.hostCommand i body) := by
  unfold State.hostCommand
  split
  · exact h
  have hb : P (s.beginTransaction ((encodeCommand i).getD [])) := by
    unfold State.beginTransaction
    split
    · exact h
    · exact port h
  exact tasks _ _ (reply _ _ _ (taking _ hb))

end Sys2Proof.Machine
end

