-- ==== Sys2Proof/WellFormed.lean ====
section
/-! DEFINITION. Which terms of `Instr` are commands that can be sent: operand widths and lengths are
in the types, so one check is left. -/

namespace Sys2Proof

/-- An UNKNOWN_COMMAND carries a code that is not in the command table (R193, R209). -/
def Instr.wf : Instr → Bool
  | .unknownCommand code => (paramCount code).isNone
  | _ => true

end Sys2Proof
end

