-- ==== Sys2Proof/Tests/Slice0.lean ====
section
/-! SUPPORT. Own tests: ill-formed commands, examples of the spec, and for every statement with hypotheses
states and operands that meet them, clause by clause at the boundaries. -/

namespace Sys2Proof.Tests

open Sys2Proof Sys2Proof.Machine

-- One proof after another: side by side, their stacks together pass the sandbox's memory.
set_option Elab.async false

/-! ## Small states -/

/-- Power-on with an image that JOIN accepts: station 9, line 0 to train 0 and line 1 to train 1. -/
def imaged : State :=
  let s := State.reset
  { s with image := { s.image with
    station := { s.image.station with number := 9 }
    lines := (s.image.lines.set 0 { settleTime := 0, rest := false, owner := .train 0 }).set 1
      { settleTime := 0, rest := false, owner := .train 1 }
    trains := s.image.trains.set 1 { line := 1, period := 2, width := 1, count := 0 } } }

/-- Joined, in a link state and a bus phase. -/
def joined (st : LinkState) (ph : BusPhase) : State :=
  imaged.applyImage.setLc { LinkController.reset with state := st, phase := ph, station := 9 }

/-- ACTIVE on an idle bus. -/
def active : State := joined .active .idle

def slotIn (st : SlotState) (k : SlotKind) : State :=
  active.setSlot 7 { Slot.reset with state := st, kind := k }

def callIn (st : CallState) : State := active.setCall 7 { CallEntry.freeWith 3 with state := st }

def oblIn (st : OblState) : State := active.setObl 7 { Obligation.free with state := st }

def armIn (st : ArmState) : State := active.setRun 23 { ReactionRun.reset with arm := st }

/-- No call entry is FREE. -/
def noCalls : State :=
  { active with cu := Vector.replicate 8 { CallEntry.freeWith 0 with state := .settled } }

/-- A port phase. -/
def port (p : PortPhase) : State := { active with hp := { active.hp with phase := p, hso := some 0 } }

/-- A line event that waits, in a link state and a bus phase. -/
def waits (e : LineEvent) (st : LinkState) (ph : BusPhase) : State :=
  (joined st ph).setLc { (joined st ph).lc with due := [e] }

/-- Entry 23 with this action on target `t`. -/
def acts (a : ActionKind) (t : Byte) (p : BitVec 16) : State :=
  { active with re := { active.re with
    defs := active.re.defs.set 23 { ReactionDef.reset with action := a, target := t, parameter := p } } }

/-! ## Well-formed commands (R193, R209) -/

theorem test_wf_refuses_table_code : Instr.wf (.unknownCommand 0x01) = false := by decide

theorem test_wf_refuses_last_table_code : Instr.wf (.unknownCommand 0x53) = false := by decide

theorem test_wf_takes_code_outside_table : Instr.wf (.unknownCommand 0x09) = true := by decide

/-! ## Examples -/

/-- Call tags of the spec's examples: caller × 64 + index × 8 + generation (R85). -/
theorem test_tag_topics : CallTag.topic { caller := 9, index := 4, generation := 2 } = 0x262
    ∧ CallTag.topic { caller := 12, index := 0, generation := 5 } = 0x305 := by decide

/-- The check of nine ASCII digits with this polynomial and preset (R10). -/
theorem test_crc : crcOf (([0x31, 0x32, 0x33, 0x34, 0x35, 0x36, 0x37, 0x38, 0x39] : List Nat).map
    (bitsOf 8)).flatten = 0x29B1 := by decide +kernel

/-- Response bytes: ACCEPT from 9 is 0x09, BUSY from 9 is 0x49 (R208). -/
theorem test_response_bytes : responseByte false 9 = 0x09 ∧ responseByte true 9 = 0x49 := by decide

/-- The longest command's bytes come back as the command (R209). -/
theorem test_slot_write_bytes : decodeCommand [0x10, 1, 2, 0, 0x01, 0x23, 0, 0, 1, 0xAB, 0, 0, 0, 0, 0, 0, 0]
    = some (.slotWrite 1 2 0 0x123 0 1 #v[0xAB, 0, 0, 0, 0, 0, 0, 0]) := by decide

/-- Power-on, an empty slot requested: the reply is STATE, three bytes (R47, R195). -/
theorem test_first_step : ∃ t, step { State.reset with pending := [.slotRequest 0] } = .next t
    ∧ t.hp.phase = .reply [0x83, 0, 0] := ⟨_, rfl, by decide +kernel⟩

/-- The last parameter byte of SLOT REQUEST takes it (R193, R194). -/
theorem test_last_byte_takes : ∃ t, exec (.byteCompletes 0)
    { State.reset with hp := { State.reset.hp with phase := .parameters [0x11], hso := some 0 } } = .next t
    ∧ t.hp.phase = .reply [0x83, 0, 0] := ⟨_, rfl, by decide +kernel⟩

/-- JOIN at power-on: CONFIG_ERROR, three bytes, STATION entry 0, NUMBER_UNSET (R188, R189). -/
theorem test_join_station : ∃ t, exec .join State.reset = .next t
    ∧ t.hp.phase = .reply [0x86, 0, 3, 0, 0, 1] := ⟨_, rfl, by decide +kernel⟩

/-- JOIN with a FINISH on a filter without ENROL in entry 23: REACTION entry 23, FINISH_FILTER. -/
theorem test_join_finish :
    let s := { imaged with re := { imaged.re with
      defs := imaged.re.defs.set 23 { ReactionDef.reset with action := .finish, target := 15 } } }
    s.failures = [{ kind := 7, index := 23, reason := 11 }] := by decide +kernel

/-- With RESET held low a command is not taken, and after it HCS low makes the port wait (R197). -/
theorem test_reset_held : exec .join (State.reset.deviceReset true true) = .next (State.reset.deviceReset true true)
    ∧ (State.reset.deviceReset false true).hp.phase = .trailing := ⟨rfl, by decide +kernel⟩

/-! ## Witnesses: the queue and the host port -/

theorem test_step_hypotheses : ({ State.reset with pending := [.join] } : State).pending = [.join]
    ∧ State.reset.pending = [] := by decide

theorem test_port_hypotheses : active.hp.phase = .deselected ∧ (port .command).hp.phase ≠ .deselected
    ∧ (port .command).hp.phase ≠ .inReset ∧ (active.deviceReset true false).hp.phase = .inReset
    ∧ (port .command).hp.resetOrdered = false
    ∧ ({ port .trailing with hp := { (port .trailing).hp with resetOrdered := true } } : State).hp.resetOrdered
      = true := by decide +kernel

theorem test_byte_hypotheses : paramCount 0x11 = some 1 ∧ paramCount 0x10 = some 16 ∧ paramCount 0x3A = some 4
    ∧ ([1, 2] : List Byte).length + 1 < 4 ∧ ([1, 2, 3] : List Byte).length + 1 = 4 ∧ paramCount 0 = none
    ∧ paramCount 0x01 = some 0 ∧ (port (.parameters [0x3A, 1, 2])).hp.phase = .parameters [0x3A, 1, 2]
    ∧ (port (.reply [1])).hp.phase = .reply [1] ∧ (port (.reply [1, 2])).hp.phase = .reply [1, 2]
    ∧ (port .trailing).hp.phase = .trailing ∧ (port .command).hp.phase = .command
    ∧ encodeCommand .join = some [0x01] ∧ (port (.parameters [0x3A, 3, 0, 0])).hp.phase = .parameters [0x3A, 3, 0, 0]
    ∧ encodeCommand (.timerLimit 3 1) = some ([0x3A, 3, 0, 0] ++ [1]) := by decide +kernel

/-- A port that is DESELECTED or in COMMAND is ready for every host command. -/
theorem test_ready {c : Instr} {s : State} (h : s.hp.phase = .deselected ∨ s.hp.phase = .command)
    (hc : (encodeCommand c).isSome = true) : s.ready c := by
  obtain ⟨bytes, hb⟩ := Option.isSome_iff_exists.mp hc
  exact ⟨bytes, hb, by rcases h with h | h <;> rw [h] <;> rfl⟩

/-- A port that has read all of TIMER LIMIT but its last byte is ready for it. -/
theorem test_ready_last_byte : (port (.parameters [0x3A, 3, 0, 0])).ready (.timerLimit 3 1) :=
  ⟨_, rfl, by decide⟩

theorem test_transaction_hypotheses : paramCount 0x09 = none ∧ (PortPhase.accepts [0x09] .command) = true
    ∧ (PortPhase.accepts [0x09] .trailing) = false ∧ encodeCommand .join = some [0x01]
    ∧ (PortPhase.accepts [0x01] (.parameters [0x3A, 3])) = false ∧ (port .trailing).hp.phase ≠ .inReset := by
  decide +kernel

/-! ## Witnesses: LOAD and JOIN -/

theorem test_load_judged_hypotheses : active.lc.state ≠ .config ∧ State.reset.lc.state = .config
    ∧ 8 ≤ (8 : Byte).toNat ∧ entryCount 0 = some 1 ∧ 1 ≤ (1 : Byte).toNat ∧ entryCount 7 = some 24
    ∧ 24 ≤ (24 : Byte).toNat := by decide +kernel

/-- STATION fields at their upper and lower ends, and one value beyond each. -/
theorem test_load_station_hypotheses : BusRate.ofCode 3 = some .k500 ∧ BusRate.ofCode 4 = none
    ∧ (63 : Byte).toNat ≤ 63 ∧ 63 < (64 : Byte).toNat ∧ (7 : Byte).toNat ≤ 7 ∧ 7 < (8 : Byte).toNat
    ∧ (15 : Byte).toNat ≤ 15 ∧ 15 < (16 : Byte).toNat ∧ 32 ≤ (0 : Byte).toNat * 256 + (32 : Byte).toNat
    ∧ (0 : Byte).toNat * 256 + (31 : Byte).toNat < 32 := by decide

theorem test_load_entry_hypotheses : (3 : Byte).toNat = (3 : Fin 4).val ∧ (15 : Byte).toNat = (15 : Fin 16).val
    ∧ (7 : Byte).toNat = (7 : Fin 8).val ∧ (1 : Byte).toNat = (1 : Fin 2).val
    ∧ (23 : Byte).toNat = (23 : Fin 24).val ∧ Owner.ofCode 2 = some (.train 1) ∧ (1 : Byte).toNat ≤ 1
    ∧ 2 < (3 : Byte).toNat ∧ 1 < (2 : Byte).toNat := by decide

theorem test_join_hypotheses : State.reset.failures ≠ [] ∧ imaged.failures = []
    ∧ imaged.lc.state = .config ∧ (joined .offline .out).lc.state = .offline ∧ active.lc.state = .active := by
  decide +kernel

/-- One CALL slot in PENDING, bound to call entry 5. -/
def bound : State :=
  (active.setSlot 2
    { Slot.reset with state := .pending, kind := .call, deadline := 1, call := some (5, 1) }).setCall 5
    { CallEntry.freeWith 1 with state := .reserved, slot := some 2, deadline := 1 }

theorem test_leave_hypotheses : bound.follows ∧ bound.BindingInv :=
  ⟨.inr (.inl rfl), ⟨by unfold Slot.binds; decide +kernel, by unfold Slot.binds; decide +kernel⟩⟩

theorem test_hold_hypotheses : active.lc.state = .active ∧ (joined .quiet .idle).lc.state ≠ .active := by
  decide +kernel

/-! ## Witnesses: ranges and reads -/

theorem test_index_hypotheses : Instr.member (.slotRead 8) = some (8, 8) ∧ 8 ≤ (8 : Byte).toNat
    ∧ Instr.member (.reactArm 24) = some (24, 24) ∧ 6 < (7 : Byte).toNat
    ∧ Instr.member (.timerLimit 3 1) = some (3, 4) ∧ (3 : Byte).toNat < 4
    ∧ Instr.afterJoin (.timerLimit 3 1) = true ∧ Instr.afterJoin (.trainStop 1) = true
    ∧ State.reset.lc.state = .config := by decide

theorem test_limit_hypothesis : ∀ x : Byte, Instr.timerLimit 3 1 ≠ .timerLimit x 0 := by
  intro x h; cases h

/-- One record, and two. -/
def record : RxRecord where
  filter := 0
  kind := .cue
  priority := 0
  topic := 0
  source := 1
  data := []
  endedAt := 0
  responses := none

theorem test_queue_hypotheses : active.rq = [] ∧ ({ active with rq := [record] } : State).rq = record :: []
    ∧ ({ active with rq := [record, record] } : State).rq = record :: [record] := by decide +kernel

/-! ## Witnesses: slots -/

theorem test_slot_hypotheses : (7 : Byte).toNat = (7 : Fin 8).val
    ∧ ∀ st ∈ [SlotState.empty, .loaded, .pending, .sending, .sent, .failed, .aborted],
      ((slotIn st .cue).slot 7).state = st ∧ ((slotIn st .call).slot 7).kind = .call := by decide +kernel

theorem test_slot_write_hypotheses : 7 < (8 : Byte).toNat ∧ 1 < (2 : Byte).toNat
    ∧ 4095 < (4096 : BitVec 16).toNat ∧ 8 < (9 : Byte).toNat ∧ 7 < (8 : Byte).toNat ∧ (7 : Byte).toNat ≤ 7
    ∧ (4095 : BitVec 16).toNat ≤ 4095 ∧ (8 : Byte).toNat ≤ 8 ∧ (1 : BitVec 16) ≠ 0 := by decide

theorem test_slot_request_hypotheses : (slotIn .loaded .call).follows
    ∧ ((slotIn .loaded .call).call 0).state = .free
    ∧ (∀ j, j < 0 → ((slotIn .loaded .call).call j).state ≠ .free)
    ∧ ((noCalls.setCall 7 (CallEntry.freeWith 7)).call 7).state = .free
    ∧ (∀ j, j < 7 → ((noCalls.setCall 7 (CallEntry.freeWith 7)).call j).state ≠ .free)
    ∧ (∀ k, (noCalls.call k).state ≠ .free) := ⟨.inr (.inl rfl), by decide +kernel⟩

theorem test_slot_abort_hypotheses : (slotIn .pending .cue).MarksInv ∧ bound.MarksInv
    ∧ (bound.slot 2).kind = .call ∧ (bound.slot 2).call = some (5, 1) := by
  unfold State.MarksInv; decide +kernel

/-! ## Witnesses: calls, obligations and reactions -/

theorem test_call_hypotheses : (∀ st ∈ [CallState.free, .reserved, .opened, .withdrawing, .settled],
    ((callIn st).call 7).state = st) := by decide +kernel

theorem test_obligation_hypotheses : (∀ st ∈ [OblState.free, .reserved, .opened, .finishing, .failed, .withdrawn],
    ((oblIn st).obl 7).state = st) ∧ (oblIn .finishing).lc.inFlight ≠ some (.obligation 7)
    ∧ ((oblIn .finishing).setLc { active.lc with inFlight := some (.obligation 7) }).lc.inFlight
      = some (.obligation 7) ∧ (6 : Byte).toNat ≤ 6 := by decide +kernel

theorem test_reaction_hypotheses : (∀ st ∈ [ArmState.disarmed, .armed, .spent], ((armIn st).run 23).arm = st)
    ∧ (armIn .armed).lc.state ≠ .config ∧ (23 : Byte).toNat = (23 : Fin 24).val := by decide +kernel

theorem test_firing_hypotheses : ((acts .notify 0 0).perform 23).result = .done
    ∧ ((acts .send 7 0).perform 23).result = .refused .slotEmpty := by decide +kernel

theorem test_gate_hypotheses :
    let d (g : GateKind) : ReactionDef := { ReactionDef.reset with gate := g, gateLine := 7 }
    (d .none).gate = .none ∧ (d .high).gate = .high ∧ (d .low).gate = .low
    ∧ (d .high).gateLine.toNat = (7 : Fin 8).val := by decide

theorem test_send_hypotheses : ((acts .send 7 0).reaction 23).action = .send
    ∧ ((acts .send 7 0).reaction 23).target.toNat = (7 : Fin 8).val
    ∧ (joined .offline .out).lc.state = .offline ∧ ((slotIn .loaded .cue).newRequest 7).isSome = true
    ∧ ((noCalls.setSlot 7 { Slot.reset with state := .sent, kind := .call }).newRequest 7) = none := by
  decide +kernel

theorem test_action_hypotheses : (∀ a ∈ [ActionKind.timerStart, .timerStop],
      ((acts a 3 0xFFFF).reaction 23).target.toNat = (3 : Fin 4).val)
    ∧ (∀ a ∈ [ActionKind.trainStart, .trainStop, .counterClear],
      ((acts a 1 0).reaction 23).action = a ∧ ((acts a 1 0).reaction 23).target.toNat = (1 : Fin 2).val)
    ∧ (∀ a ∈ [ActionKind.outputSet, .outputClear, .outputToggle],
      ((acts a 7 0).reaction 23).action = a ∧ ((acts a 1 0).output 1).owner ≠ .level
        ∧ ((acts a 7 0).output 7).owner = .level)
    ∧ (∀ a ∈ [ActionKind.arm, .disarm], ((acts a 23 0).reaction 23).target.toNat = (23 : Fin 24).val)
    ∧ ((acts .notify 0 0x1FF).reaction 23).action = .notify := by decide +kernel

/-- Two OPEN entries of filter 15 opened at one time: the lower index is the oldest. -/
def twoOpen : State :=
  let s := acts .finish 15 0
  (s.setObl 3 { Obligation.free with state := .opened, filter := 15 }).setObl 6
    { Obligation.free with state := .opened, filter := 15 }

theorem test_finish_hypotheses : (∀ o, (active.obl o).state = .opened → (active.obl o).filter ≠ 15)
    ∧ (twoOpen.obl 3).state = .opened ∧ (twoOpen.obl 3).filter = 15
    ∧ (∀ q, (twoOpen.obl q).state = .opened → (twoOpen.obl q).filter = 15 →
        (twoOpen.now - (twoOpen.obl q).openedAt).toNat ≤ (twoOpen.now - (twoOpen.obl 3).openedAt).toNat
        ∧ ((twoOpen.now - (twoOpen.obl q).openedAt).toNat = (twoOpen.now - (twoOpen.obl 3).openedAt).toNat →
          (3 : Fin 8) ≤ q)) := by decide +kernel

theorem test_pulse_hypotheses : ((acts .holdPulse 0 31).reaction 23).action = .holdPulse
    ∧ (acts .holdPulse 0 31).lc.state = .active ∧ ((acts .holdPulse 0 0).reaction 23).parameter = 0
    ∧ (joined .quiet .idle).lc.state ≠ .active := by decide +kernel

/-- Entries 4 and 23, ARMED and bound to HOLD_BEGIN. -/
def twoBound : State :=
  let d : ReactionDef := { ReactionDef.reset with trigger := .holdBegin }
  let r : ReactionRun := { ReactionRun.reset with arm := .armed }
  { active with re := { active.re with
    defs := (active.re.defs.set 4 d).set 23 d, runs := (active.re.runs.set 4 r).set 23 r } }

theorem test_taking_hypotheses : twoBound.reached 23 .holdBegin = true ∧ twoBound.reached 4 .holdBegin = true
    ∧ (∀ q, 23 < q → twoBound.reached q .holdBegin = false)
    ∧ (∀ r, twoBound.reached r .holdEnd = false) ∧ State.reset.lc.state = .config
    ∧ twoBound.lc.state ≠ .config ∧ (twoBound.fire 4).state.reached 23 .holdBegin = true
    ∧ (∀ x ∈ [Occurrence.cueMatch 15, .holdPersists], x.kind ≠ .inputEdge ∧ x.kind ≠ .trainDone
      ∧ x.kind ≠ .slotDone ∧ x.kind ≠ .callSettled) := by decide +kernel

/-! ## Witnesses: the Timing Unit and the Line Unit -/

/-- Timer 3 with limit 10. -/
def timed (running : Bool) (count : Nat) (expiring : Bool) : State :=
  active.setTimer 3 { limit := 10, mode := .once, running := running, count := count, expiring := expiring }

theorem test_timer_hypotheses : ((timed false 0 false).timer 3).running = false
    ∧ ((timed true 4 false).timer 3).count < (5 : BitVec 24).toNat
    ∧ (4 : BitVec 24).toNat ≤ ((timed true 4 false).timer 3).count
    ∧ ((timed true 9 true).timer 3).expiring = true
    ∧ ((timed true 9 true).timer 3).count + 1 < (11 : BitVec 24).toNat
    ∧ ((timed true 9 true).timer 3).count + 1 = (10 : BitVec 24).toNat := by decide +kernel

theorem test_counter_hypotheses :
    let s := active.setCounter 1 { source := 7, edge := .rise, compare := 0, count := 0xFFFFFF }
    s.lc.state ≠ .config ∧ (s.counter 1).source = 7 ∧ (s.counter 1).edge = .rise
    ∧ (s.counter 1).count + 1 = (s.counter 1).compare := by decide +kernel

/-- Train 1 in a part. -/
def trained (running : Bool) (part : TrainPart) (due mark : Bool) (count pulses : BitVec 16) : State :=
  active.setTrain 1 { active.train 1 with
    running := running, part := part, edgeDue := due, stopMark := mark, count := count, pulses := pulses }

theorem test_train_hypotheses : ((trained false .rest false false 0 0).train 1).running = false
    ∧ ((trained true .rest true false 0 0).train 1).part = .rest
    ∧ ((trained true .active true true 0 0).train 1).stopMark = true
    ∧ ((trained true .rest true false 0 0).train 1).edgeDue = true
    ∧ (let x := (trained true .active true false 2 2).train 1; x.count ≠ 0 ∧ x.pulses = x.count)
    ∧ (let x := (trained true .active true true 0 0).train 1; ¬ (x.count ≠ 0 ∧ x.pulses = x.count)) := by
  decide +kernel

theorem test_output_hypotheses : (0x02 : Byte).getLsbD 1 = true ∧ (active.output 1).owner ≠ .level
    ∧ (∀ k : Fin 8, (0xFC : Byte).getLsbD k.val = true → (active.output k).owner = .level)
    ∧ (∀ k : Fin 8, (0 : Byte).getLsbD k.val = true → (active.output k).owner = .level) := by decide +kernel

/-! ## Witnesses: the Event Unit -/

theorem test_event_hypotheses : 0xFFF < (0x1000 : BitVec 16).toNat ∧ (0xFFF : BitVec 16).toNat ≤ 0xFFF
    ∧ 5 < (6 : Byte).toNat
    ∧ (∀ q : Fin 12, active.eu.flags.getLsbD q.val = false ∨ active.eu.enables.getLsbD q.val = false)
    ∧ (let s : State := { active with eu := { active.eu with flags := 0xC00, enables := 0xBFF } }
      s.eu.flags.getLsbD 11 = true ∧ s.eu.enables.getLsbD 11 = true
      ∧ ∀ q : Fin 12, q < 11 → s.eu.flags.getLsbD q.val = false ∨ s.eu.enables.getLsbD q.val = false) := by
  decide +kernel

/-! ## Witnesses: line events -/

/-- A choice held on an idle bus. -/
def chosen (c : Candidate) : State :=
  (slotIn .pending .cue).setLc { active.lc with choice := some { candidate := c, due := true } }

theorem test_sof_hypotheses : LineEvent.peerSof ∈ (waits .peerSof .active .idle).lc.due
    ∧ (waits .peerSof .active .idle).lc.phase = .idle
    ∧ (∀ c ∈ [Candidate.slot 7, .obligation 0, .withdraw 0],
      (chosen c).lc.choice = some { candidate := c, due := true } ∧ (chosen c).lc.due = []
      ∧ (chosen c).lc.state = .active ∧ (chosen c).lc.phase = .idle ∧ (chosen c).lc.pulse = 0
      ∧ (chosen c).lc.held = false ∧ (chosen c).lc.holdFlag = false ∧ (chosen c).lc.inFlight = none)
    ∧ ((chosen (.slot 7)).slot 7).kind = .cue ∧ active.lc.choice = none := by decide +kernel

/-- Header and data of a CALL of topic 0x123 from station 5, its reference naming entry 2, generation 3. -/
def callBits : List Bool := (frameBits 1 .call 0x123 5 [0x4C]).take 36

def callFrame : Frame := { Frame.start .receiver .start [] with bits := callBits }

/-- A CALL received to its EOD point, filter 15 enrolling its topic. -/
def atEod : State :=
  let s := waits .eodPoint .active .frame
  { s.setLc { s.lc with frame := some callFrame } with au := { s.au with
    filters := s.au.filters.set 15
      { enabled := true, topic := 0x123, maskIndex := 0, kinds := 2, roles := 4 } } }

def callerTag : CallTag := { caller := 5, index := 2, generation := 3 }

theorem test_eod_hypotheses : LineEvent.eodPoint ∈ atEod.lc.due ∧ atEod.lc.frame = some callFrame
    ∧ callFrame.role = .receiver ∧ callFrame.lost = false ∧ callFrame.stopped = false
    ∧ atEod.permission = true ∧ atEod.enrollingFilter (topicOf callFrame.bits) = some 15
    ∧ callFrame.callTag = callerTag ∧ atEod.enrollingFilter 0 = none ∧ atEod.ou.verdict = none := by
  decide +kernel

theorem test_verdict_hypotheses :
    let held := atEod.setObl 7 { Obligation.free with state := .failed, tag := callerTag }
    let old := atEod.setObl 7 { Obligation.free with state := .withdrawn, tag := callerTag }
    let full := { atEod with ou := { atEod.ou with
      entries := Vector.replicate 8 { Obligation.free with state := .opened } } }
    ((held.obl 7).tag = callerTag ∧ (held.obl 7).state = .failed ∧ ∀ p, p < 7 → (held.obl p).state = .free)
    ∧ ((old.obl 7).state = .withdrawn ∧ (old.obl 7).tag = callerTag ∧ (old.obl 0).state = .free
      ∧ ∀ p, p < 7 → (old.obl p).state ≠ .withdrawn)
    ∧ (∀ p, (full.obl p).state ≠ .free ∧ (full.obl p).tag ≠ callerTag)
    ∧ ∀ w, (atEod.obl w).state ≠ .withdrawn := by decide +kernel

theorem test_window_hypotheses :
    let s := (waits .placed .active .frame).setVerdict (some { answer := .busy, placed := false })
    LineEvent.placed ∈ s.lc.due ∧ s.lc.phase = .frame ∧ s.ou.verdict = some { answer := .busy, placed := false }
    ∧ LineEvent.crowded ∈ (waits .crowded .active .frame).lc.due
    ∧ (waits (.receiveError .check) .active .frame).lc.due.find? LineEvent.isReceive
      = some (.receiveError .check) := by decide +kernel

theorem test_frame_end_hypotheses :
    let s := waits .frameEnd .active .frame
    LineEvent.frameEnd ∈ s.lc.due ∧ s.lc.phase = .frame ∧ s.lc.inFlight = none
    ∧ (s.setLc { s.lc with frame := some callFrame }).lc.frame = some callFrame
    ∧ kindOf callFrame.bits = some .call ∧ s.ou.verdict = none
    ∧ (s.setVerdict (some { answer := .busy, placed := true })).ou.verdict ≠ none := by decide +kernel

/-- The verdict names entry 7 newly reserved. -/
def named (st : OblState) (placed : Bool) : State :=
  (oblIn st).setVerdict (some { answer := .reserved 7, placed := placed })

theorem test_opening_hypotheses : (∀ b ∈ [true, false],
      (named .reserved b).ou.verdict = some { answer := .reserved 7, placed := b })
    ∧ ((named .reserved true).obl 7).state = .reserved ∧ ((named .free true).obl 7).state ≠ .reserved
    ∧ ∀ o b, (active.setVerdict (some { answer := .busy, placed := true })).ou.verdict
      ≠ some { answer := .reserved o, placed := b } := by decide +kernel

theorem test_match_hypotheses : atEod.filterMatches .call 0x123 15 = true
    ∧ (∀ g, g < 15 → atEod.filterMatches .call 0x123 g = false)
    ∧ (∀ f, atEod.filterMatches .cue 0x123 f = false) ∧ (atEod.filter 15).maskIndex.toNat = (0 : Fin 4).val
    ∧ ({ active with rq := List.replicate 15 record } : State).rq.length < 16
    ∧ 16 ≤ ({ active with rq := List.replicate 16 record } : State).rq.length := by decide +kernel

/-- Call entry 2, generation 3, of this station. -/
def owed (st : CallState) (o : Option CallOutcome) (out un : List Station) : State :=
  active.setCall 2 { CallEntry.freeWith 3 with
    state := st, outcome := o, enrolled := out ++ un, outstanding := out, unanswered := un }

/-- A DONE from station 5 for it: caller 9, entry 2, generation 3. -/
def done : RxFrame where
  priority := 1
  kind := .done
  topic := 0x253
  source := 5
  data := [0]
  responses := []

theorem test_done_hypotheses : (done.topic.extractLsb' 3 3).toNat = (2 : Fin 8).val
    ∧ (let e := (owed .opened none [5, 6] []).call 2
      e.generation = done.topic.extractLsb' 0 3 ∧ done.source ∈ e.outstanding
      ∧ e.outstanding.erase done.source ≠ [])
    ∧ (let e := (owed .withdrawing none [5] []).call 2
      e.state = .withdrawing ∧ done.source ∈ e.outstanding ∧ e.outstanding.erase done.source = [])
    ∧ (let e := (owed .settled (some .expired) [] [5]).call 2
      e.state = .settled ∧ e.outcome = some .expired ∧ done.source ∈ e.unanswered)
    ∧ (let e := (owed .settled (some .allDone) [] []).call 2
      e.state = .settled ∧ done.source ∉ e.unanswered) := by decide +kernel

theorem test_withdraw_hypotheses :
    let s := active.setObl 7 { Obligation.free with state := .finishing, tag := callerTag }
    callerTag.topic.extractLsb' 6 6 = (5 : Station) ∧ (s.obl 7).tag = callerTag ∧ (s.obl 7).state = .finishing
    ∧ s.lc.inFlight ≠ some (.obligation 7) ∧ (∀ p, p < 7 → (s.obl p).tag ≠ callerTag) := by decide +kernel

theorem test_attempt_hypotheses :
    let s := waits (.attemptSettled .bit) .active .frame
    s.lc.due.find? LineEvent.isAttempt = some (.attemptSettled .bit)
    ∧ ∀ c ∈ [Candidate.slot 0, .obligation 0, .withdraw 0],
      (s.setLc { s.lc with inFlight := some c }).lc.inFlight = some c := by decide +kernel

theorem test_failure_hypotheses : (active.setLc { active.lc with failures := 30 }).lc.failures < 31
    ∧ 31 ≤ (active.setLc { active.lc with failures := 31 }).lc.failures := by decide +kernel

theorem test_outcome_hypotheses : active.lc.retryLimit = 3 ∧ 2 + 1 ≤ active.lc.retryLimit
    ∧ active.lc.retryLimit < 3 + 1
    ∧ (let x := (active.setSlot 7
          { Slot.reset with
            state := .sending, kind := .call, call := some (5, 1), abort := true, attempts := 3 }).slot 7
      x.abort = true ∧ x.rerun = false ∧ x.kind = .call ∧ x.call = some (5, 1)
      ∧ active.lc.retryLimit < x.attempts + 1)
    ∧ (let s := noCalls.setSlot 7
          { Slot.reset with state := .sending, kind := .call, call := some (5, 1), rerun := true }
      (s.slot 7).rerun = true ∧ (s.slot 7).abort = false ∧ ∀ j, (s.call j).state ≠ .free) := by
  decide +kernel

/-- A CALL slot with its rerun mark set, on entry 5; entry 0 is the lowest then FREE. -/
theorem test_rerun_hypotheses :
    let x : Slot := { Slot.reset with state := .sending, kind := .call, call := some (5, 1), rerun := true }
    let s := (active.setSlot 7 x).setCall 5 { CallEntry.freeWith 1 with state := .reserved }
    (s.slot 7).kind = .call ∧ (s.slot 7).call = some (5, 1) ∧ (s.slot 7).rerun = true
    ∧ (((((s.setSlot 7 { x with state := .sent }).setFlag .slotDone).addSlotDone 7).openCall 5
      []).1.call 0).state = .free
    ∧ (((((s.setCall 5 (CallEntry.freeWith 1)).setSlot 7 { x with state := .failed, call := none }).setFlag
      .slotDone).addSlotDone 7).call 0).state = .free ∧ ∀ m : Fin 8, ¬ m < 0 := by decide +kernel

theorem test_recovery_hypotheses : LineEvent.recoveryGap ∈ (waits .recoveryGap .active .recovery).lc.due
    ∧ (waits .recoveryGap .active .recovery).lc.phase = .recovery
    ∧ LineEvent.integration ∈ (waits .integration .integrating .await).lc.due
    ∧ (waits .integration .integrating .await).lc.phase = .await
    ∧ LineEvent.quietEnds ∈ (waits .quietEnds .quiet .hold).lc.due
    ∧ (waits .quietEnds .quiet .hold).lc.state = .quiet := by decide +kernel

theorem test_hold_event_hypotheses : LineEvent.holdDetected ∈ (waits .holdDetected .active .frame).lc.due
    ∧ (waits .holdDetected .active .frame).lc.phase = .frame
    ∧ LineEvent.persistenceMark ∈ (waits .persistenceMark .active .hold).lc.due
    ∧ LineEvent.holdEnded ∈ (waits .holdEnded .active .hold).lc.due
    ∧ (waits .holdEnded .active .hold).lc.phase = .hold
    ∧ (let s := waits .pulseEnds .active .idle
      LineEvent.pulseEnds ∈ s.lc.due ∧ (s.setLc { s.lc with pulse := 1 }).lc.pulse ≠ 0) := by decide +kernel

theorem test_not_due_hypotheses : LineEvent.peerSof ∉ active.lc.due ∧ (active.call 7).expiring = false
    ∧ (active.timer 3).expiring = false ∧ (active.train 1).edgeDue = false ∧ (active.input 7).edgeDue = false
    ∧ LineEvent.holdEnded ∈ (waits .holdEnded .active .idle).lc.due
    ∧ (waits .holdEnded .active .idle).lc.permits .holdEnded = false := by decide +kernel

theorem test_no_settlement_due : (∀ c, LineEvent.attemptSettled c ∉ active.lc.due)
    ∧ ∀ c, LineEvent.receiveError c ∉ active.lc.due :=
  ⟨fun _ h => List.not_mem_nil h, fun _ h => List.not_mem_nil h⟩

/-! ## Witnesses: time and samples -/

theorem test_rested : active.Rested := ⟨rfl, by decide +kernel, by decide +kernel, by decide +kernel, by decide +kernel⟩

/-- Call entry 7 OPEN with this much left. -/
def counting (remaining fraction : Nat) (expiring : Bool) : State :=
  active.setCall 7 { CallEntry.freeWith 0 with
    state := .opened, remaining := remaining, fraction := fraction, expiring := expiring }

theorem test_time_step_hypotheses : ((timed true 8 false).settleDue.timer 3).count + 1 < 10
    ∧ 10 ≤ ((timed true 9 false).settleDue.timer 3).count + 1
    ∧ ((trained true .rest false false 0 0).settleDue.train 1).running = true
    ∧ ((counting 2 998 false).settleDue.call 7).fraction + 1 < 1000
    ∧ ((counting 1 999 false).settleDue.call 7).state = .opened
    ∧ active.settleDue.lc.held = false ∧ (0x80 : Byte).getLsbD 7 ≠ (active.settleDue.input 7).level
    ∧ (active.settleDue.input 7).settling = none
    ∧ ((active.setInput 7 { InputLine.reset with settling := some 254 }).settleDue.input 7).settling = some 254 := by
  decide +kernel

theorem test_timed_event_hypotheses : ((counting 1 999 true).call 7).expiring = true
    ∧ ((counting 1 999 true).call 7).state = .opened ∧ ((timed true 9 true).timer 3).expiring = true
    ∧ (let s := active.setInput 7 { InputLine.reset with edgeDue := true }
      (s.input 7).edgeDue = true) := by decide +kernel

/-- No entry of the joined station is bound to anything. -/
theorem test_nothing_bound (o : Occurrence) : active.bound o = false := by
  have h : ∀ r, (active.reaction r).trigger = .none := by decide +kernel
  simp only [State.bound, List.any_eq_false, ReactionDef.triggeredBy, h]
  intro r _; cases o <;> simp [Occurrence.kind]

theorem test_sample_hypotheses : (joined .offline .out).lc.phase = .out
    ∧ (∀ ph ∈ [BusPhase.await, .idle, .frame, .recovery, .hold],
      (joined .active ph).settleDue.driveDueSof.lc.phase = ph)
    ∧ (joined .quiet .idle).settleDue.driveDueSof.lc.quiet = none
    ∧ (let s := (joined .quiet .idle).setLc { (joined .quiet .idle).lc with quiet := some 8191 }
      s.settleDue.driveDueSof.lc.quiet = some 8191)
    ∧ (let s := active.setLc { active.lc with phase := .frame, frame := some callFrame }
      s.settleDue.driveDueSof.lc.frame = some callFrame) := by decide +kernel

/-- BUSTX in the bit time of the next sample point (R1): a due choice's SOF, which reads back without an error. -/
theorem test_bus_tx : (chosen (.slot 7)).Rested ∧ (chosen (.slot 7)).mayChoose = true
    ∧ (chosen (.slot 7)).busTx = .dominant
    ∧ ((chosen (.slot 7)).inBitTime.readBit .dominant).lc.due = []
    ∧ (((chosen (.slot 7)).inBitTime.readBit .dominant).lc.frame.map Frame.stopped) = some false := by
  refine ⟨⟨rfl, ?_, ?_, ?_, ?_⟩, ?_⟩ <;> decide +kernel

/-- BUSTX released without anything to drive, and outside the line; driven by the own pulse, and released behind
its end that waits; driven by a responder behind the EOD point that waits. -/
theorem test_bus_tx_while_events_wait : active.busTx = .recessive ∧ (joined .offline .out).busTx = .recessive
    ∧ (active.setLc { active.lc with pulse := 1 }).busTx = .dominant
    ∧ (let s := active.setLc { active.lc with pulse := 1, due := [.pulseEnds] }
      s.driven = .dominant ∧ s.busTx = .recessive)
    ∧ atEod.driven = .recessive ∧ atEod.busTx = .dominant := by decide +kernel

/-- An event of the line that waits, and no entry bound to anything. -/
theorem test_unbound_events (e : LineEvent) (st : LinkState) (ph : BusPhase) (o : Occurrence) :
    (waits e st ph).bound o = false := test_nothing_bound o

/-! ## Witnesses: the frame on the wire -/

/-- A cue of one byte, a call, a report and a withdrawal from station 9. -/
def cue : RxFrame := { done with kind := .cue, topic := 0, source := 9, data := [0xFF] }
def call : RxFrame := { done with kind := .call, topic := 0xFFF, source := 9, data := [0x4C] }
def withdraw : RxFrame := { done with kind := .withdraw, data := [] }

theorem test_bit_hypotheses :
    let f : Frame := { Frame.start .transmitter .header [true] with run := 1 }
    f.stopped = false ∧ ({ f with run := 5 } : Frame).run = 5 ∧ f.last = .dominant ∧ f.run ≠ 5
    ∧ Level.ofBit (f.toSend.headD true) ≠ .dominant ∧ f.count < 24
    ∧ Level.ofBit (({ f with toSend := [false] } : Frame).toSend.headD true) ≠ .recessive
    ∧ ({ f with elem := .eod } : Frame).elem = .eod ∧ ({ f with elem := .eof } : Frame).elem = .eof
    ∧ ({ f with stopped := true } : Frame).stopped = true := by decide

/-- Headers that become illegal at their 6th, 18th, 24th and 28th bit, and a call reference at the 36th. -/
theorem test_illegal_hypotheses :
    let at6 := bitsOf 6 4
    let at18 := bitsOf 6 2 ++ bitsOf 12 63
    let at24 := bitsOf 6 0 ++ bitsOf 12 0 ++ bitsOf 6 0
    let at28 := bitsOf 6 3 ++ bitsOf 12 64 ++ bitsOf 6 1 ++ bitsOf 4 1
    let at36 := bitsOf 6 1 ++ bitsOf 12 0 ++ bitsOf 6 1 ++ bitsOf 4 1 ++ bitsOf 8 1
    (at6.length = 6 ∧ 3 < field at6 3 3) ∧ (at18.length = 18 ∧ field at18 3 3 = 2 ∧ field at18 6 6 = 0)
    ∧ (at24.length = 24 ∧ field at24 18 6 = 0)
    ∧ (at28.length = 28 ∧ field at28 3 3 = 3 ∧ field at28 24 4 ≠ 0)
    ∧ at36.length = 36 ∧ field at36 3 3 = 1 ∧ field at36 34 2 ≠ 0 := by decide

/-- A receiver at the last bit of its check, which agrees or not. -/
theorem test_check_hypotheses :
    let f : Frame := { Frame.start .receiver .check [] with count := 15, run := 1, check := List.replicate 15 true }
    f.role = .receiver ∧ f.stopped = false ∧ f.run ≠ 5 ∧ f.count = 15
    ∧ natOf (f.check ++ [Level.recessive.bit]) = f.crc.toNat
    ∧ natOf (f.check ++ [Level.dominant.bit]) ≠ f.crc.toNat := by decide

/-- A station in the window, with byte `b`. -/
def inWindow (role : Role) (r : Responder) (b : Byte) : Frame :=
  { Frame.start role .start [] with responder := r, ownByte := b }

theorem test_window_frames : (∀ role ∈ [Role.transmitter, .receiver], (inWindow role .absent 0).AtWindow)
    ∧ (inWindow .receiver .competing 0x01).LegalByte ∧ (inWindow .receiver .competing 0x7F).LegalByte
    ∧ (inWindow .receiver .competing 0x01).ownByte.toNat < (inWindow .receiver .competing 0x7F).ownByte.toNat :=
  ⟨by intro role _; exact ⟨⟨rfl, rfl, rfl⟩, rfl, rfl, rfl, rfl⟩, by unfold Frame.LegalByte; decide,
    by unfold Frame.LegalByte; decide, by decide⟩

/-- Bits of a response byte: a loss, an illegal verdict at the second bit, a byte's last bit in position 15. -/
theorem test_response_bit_hypotheses :
    let f : Frame := { inWindow .receiver .competing 0x41 with elem := .response, count := 1, partialByte := [false] }
    let g : Frame := { f with
      count := 7, partialByte := List.replicate 7 false, responses := List.replicate 14 1, run := 4 }
    Level.ofBit (f.ownByte.getLsbD (7 - f.count)) = .recessive ∧ f.run ≠ 5
    ∧ (([true] : List Bool) ++ [false]).head? = some true ∧ g.count = 7 ∧ g.responses.length = 14
    ∧ (BitVec.ofNat 8 (natOf (g.partialByte ++ [true]))).extractLsb' 0 6 ≠ (0 : BitVec 6)
    ∧ (BitVec.ofNat 8 (natOf (g.partialByte ++ [false]))).extractLsb' 0 6 = (0 : BitVec 6)
    ∧ ({ g with run := 5 } : Frame).run = 5 := by decide

theorem test_sendable : cue.Sendable ∧ call.Sendable ∧ done.Sendable ∧ withdraw.Sendable :=
  ⟨⟨by decide, by decide, by decide, by decide, rfl⟩, ⟨by decide, by decide, by decide, by decide, rfl⟩,
    ⟨by decide, by decide, by decide, by decide, rfl⟩, ⟨by decide, by decide, by decide, by decide, rfl⟩⟩

theorem test_arbitration_hypotheses : cue.arbitrationField < call.arbitrationField
    ∧ ({ cue with source := 8 } : RxFrame).arbitrationField < cue.arbitrationField := by decide

/-! ## Witnesses: choices, lists and tags -/

theorem test_arbiter_hypotheses : (slotIn .pending .cue).bestCandidate = some (.slot 7)
    ∧ (slotIn .pending .cue).isCandidate (.slot 7) = true ∧ (slotIn .pending .cue).mayChoose = true
    ∧ (chosen (.slot 7)).isCandidate (.slot 7) = true ∧ (chosen (.slot 6)).isCandidate (.slot 6) = false
    ∧ (joined .active .recovery).mayChoose = false := by decide +kernel

/-- Both lists: 5 accepts, 6 is busy, a second byte of 5 and the own byte are left out (R89). -/
theorem test_response_lists : responseLists 9 [0x05, 0x09, 0x46, 0x45] = ([5], [6])
    ∧ (responseLists 9 [0x49]).1 = [] := by decide

theorem test_tag_hypotheses : (∀ o, (active.obl o).state ≠ .reserved)
    ∧ ∀ o p, (active.obl o).state ≠ .free → (active.obl p).state ≠ .free →
      (active.obl o).tag = (active.obl p).tag → o = p := by decide +kernel

/-! ## Witnesses: invariants, at a station that is ACTIVE with a CALL slot bound -/

theorem test_link_invariant : bound.LinkInv := by
  constructor <;> (try unfold State.offBus) <;> decide +kernel

theorem test_choice_invariant : bound.ChoiceInv where
  choice_stands := fun c h => by rw [show bound.lc.choice = none from rfl] at h; cases h
  sending_iff := by decide +kernel
  done_flight := by decide +kernel
  withdraw_flight := by decide +kernel
  withdraw_owed := by decide +kernel

theorem test_account_invariant : bound.AccountsInv := fun k => by
  constructor <;> revert k <;> decide +kernel

theorem test_budget_invariant : active.BudgetInv := by
  unfold State.BudgetInv; decide +kernel

theorem test_queue_port_invariants : active.QueueInv ∧ active.PortInv := by
  refine ⟨⟨by decide +kernel, by decide +kernel⟩, ⟨by decide +kernel, fun got h => ?_, fun left h => ?_,
    fun h => absurd h (by decide +kernel)⟩⟩
  · rw [show active.hp.phase = .deselected from rfl] at h; cases h
  · rw [show active.hp.phase = .deselected from rfl] at h; cases h

theorem test_counts_invariant : bound.CountsInv := by
  refine ⟨?_, by decide +kernel, fun i => ?_, fun k => ?_, fun o => ?_, by decide +kernel⟩
  · constructor <;> first | decide +kernel | (intro c; cases c <;> decide +kernel)
  · constructor <;> revert i <;> decide +kernel
  · constructor <;> revert k <;> decide +kernel
  · constructor <;> revert o <;> decide +kernel

/-- Entry 7 RESERVED and named, the others FREE. -/
theorem test_tags_invariant : (named .reserved true).TagsInv := ⟨by decide +kernel, by decide +kernel⟩

theorem test_timing_invariants : active.TimersInv ∧ active.TrainsInv ∧ active.OutputsInv := by
  refine ⟨⟨fun t => ?_, by decide +kernel⟩, ⟨fun g => ?_, by decide +kernel⟩, ⟨by decide +kernel, fun _ k g => ?_, by decide +kernel⟩⟩
  · constructor <;> revert t <;> decide +kernel
  · constructor <;> revert g <;> decide +kernel
  · revert k g; decide +kernel

end Sys2Proof.Tests
end

section
/-! SUPPORT. SLOT CLEAR (R52): what its taking does in each slot state, and the command assembled from it. -/

namespace Sys2Proof.Machine

/-- A command on member `i` of its table whose taking hands nothing on is that taking and its reply. -/
theorem hostCommand_indexed_of_ready {n : Nat} [NeZero n] {s : State} {c : Instr} (h : s.ready c) {b : Byte}
    {i : Fin n} (hb : b.toNat = i.val) {body : Fin n → State → Taken} (hs : (body i s).series = []) :
    s.hostCommand c (indexed n b body) = (body i s).state.reply (body i s).status (body i s).data := by
  rw [hostCommand_of_ready h, indexed_of_val b i hb, hs, settleTasks_nil]

/-- A slot with content, and no request of it under way, goes back to its value at device reset. -/
theorem takeSlotClear_of_loaded_or_done {s : State} {i : Fin 8}
    (h : (s.slot i).state = .loaded ∨ (s.slot i).state = .sent ∨ (s.slot i).state = .failed
      ∨ (s.slot i).state = .aborted) : takeSlotClear i s = .ok (s.setSlot i Slot.reset) := by
  rcases h with h | h | h | h <;> simp only [takeSlotClear, h]

/-- A slot that is EMPTY already is left as it stands. -/
theorem takeSlotClear_of_empty {s : State} {i : Fin 8} (h : (s.slot i).state = .empty) :
    takeSlotClear i s = .ok s := by simp only [takeSlotClear, h]

/-- A slot with a request under way cannot be cleared. -/
theorem takeSlotClear_of_pending_or_sending {s : State} {i : Fin 8}
    (h : (s.slot i).state = .pending ∨ (s.slot i).state = .sending) : takeSlotClear i s = .refuse s .busy := by
  rcases h with h | h <;> simp only [takeSlotClear, h]

/-- SLOT CLEAR hands on no events to be taken after it. -/
theorem takeSlotClear_series (i : Fin 8) (s : State) : (takeSlotClear i s).series = [] := by
  unfold takeSlotClear
  split <;> rfl

/-- SLOT CLEAR on slot `i` is its taking and its reply. -/
theorem exec_slotClear_of_ready {s : State} {b : Byte} {i : Fin 8} (h : s.ready (.slotClear b))
    (hb : b.toNat = i.val) : exec (.slotClear b) s
      = .next ((takeSlotClear i s).state.reply (takeSlotClear i s).status (takeSlotClear i s).data) :=
  congrArg Host.Outcome.next (hostCommand_indexed_of_ready h hb (takeSlotClear_series i s))

/-- Settles O18: the taking of SLOT CLEAR by slot state, each with its reply. -/
theorem slotClearEmptiesTheSlot : Obligations.SlotClearEmptiesTheSlot := by
  intro s b i hready hb
  rw [exec_slotClear_of_ready hready hb]
  refine ⟨fun h => ?loaded_or_done, fun h => ?empty, fun h => ?pending_or_sending⟩
  case loaded_or_done => rw [takeSlotClear_of_loaded_or_done h]; rfl
  case empty => rw [takeSlotClear_of_empty h]; rfl
  case pending_or_sending => rw [takeSlotClear_of_pending_or_sending h]; rfl

end Sys2Proof.Machine
end

section
/-! SUPPORT. RX READ and RX RELEASE (R79 to R81): their takings on an empty queue and on one with a head, and the
commands assembled from them. -/

namespace Sys2Proof.Machine

/-! ## Commands that hand nothing on -/

/-- A command carried out that hands nothing on is the state its taking leaves, with its reply. -/
theorem hostCommand_of_ok {s t : State} {c : Instr} {body : State → Taken} {data : List Byte} (h : s.ready c)
    (hb : body s = .ok t data) : s.hostCommand c body = t.reply .ok data := by
  rw [hostCommand_of_ready h, hb]
  exact settleTasks_nil _

/-- A refused command is its reply, which has no data (R198). -/
theorem hostCommand_of_refuse {s t : State} {c : Instr} {body : State → Taken} {st : Status} (h : s.ready c)
    (hb : body s = .refuse t st) : s.hostCommand c body = t.reply st [] := by
  rw [hostCommand_of_ready h, hb]
  exact settleTasks_nil _

/-! ## The takings, by the queue -/

theorem takeRxRead_of_nil {s : State} (h : s.rq = []) : takeRxRead s = .refuse s .empty := by
  simp only [takeRxRead, h]

theorem takeRxRead_of_cons {s : State} {r : RxRecord} {rest : List RxRecord} (h : s.rq = r :: rest) :
    takeRxRead s = .ok s (byte (rest.length + 1) :: r.bytes) := by
  simp only [takeRxRead, h, List.length_cons]

theorem takeRxRelease_of_nil {s : State} (h : s.rq = []) : takeRxRelease s = .refuse s .empty := by
  simp only [takeRxRelease, h]

/-- Releasing the only record clears RX_READY (R81). -/
theorem takeRxRelease_of_singleton {s : State} {r : RxRecord} (h : s.rq = [r]) :
    takeRxRelease s = .ok (({ s with rq := [] } : State).clearFlag .rxReady) [byte 0] := by
  simp only [takeRxRelease, h, List.isEmpty_nil, if_true, List.length_nil]

/-- Releasing a record with others behind it takes the head off the queue and touches nothing else. -/
theorem takeRxRelease_of_cons_cons {s : State} {r next : RxRecord} {rest : List RxRecord}
    (h : s.rq = r :: next :: rest) :
    takeRxRelease s = .ok { s with rq := next :: rest } [byte (next :: rest).length] := by
  simp only [takeRxRelease, h, List.isEmpty_cons, Bool.false_eq_true, if_false]

/-! ## The commands -/

theorem exec_rxRead_of_nil {s : State} (h : s.ready .rxRead) (hq : s.rq = []) :
    exec .rxRead s = .next (s.reply .empty []) :=
  congrArg Host.Outcome.next (hostCommand_of_refuse h (takeRxRead_of_nil hq))

theorem exec_rxRead_of_cons {s : State} {r : RxRecord} {rest : List RxRecord} (h : s.ready .rxRead)
    (hq : s.rq = r :: rest) : exec .rxRead s = .next (s.reply .ok (byte (rest.length + 1) :: r.bytes)) :=
  congrArg Host.Outcome.next (hostCommand_of_ok h (takeRxRead_of_cons hq))

theorem exec_rxRelease_of_nil {s : State} (h : s.ready .rxRelease) (hq : s.rq = []) :
    exec .rxRelease s = .next (s.reply .empty []) :=
  congrArg Host.Outcome.next (hostCommand_of_refuse h (takeRxRelease_of_nil hq))

theorem exec_rxRelease_of_singleton {s : State} {r : RxRecord} (h : s.ready .rxRelease) (hq : s.rq = [r]) :
    exec .rxRelease s = .next ((({ s with rq := [] } : State).clearFlag .rxReady).reply .ok [byte 0]) :=
  congrArg Host.Outcome.next (hostCommand_of_ok h (takeRxRelease_of_singleton hq))

theorem exec_rxRelease_of_cons_cons {s : State} {r next : RxRecord} {rest : List RxRecord}
    (h : s.ready .rxRelease) (hq : s.rq = r :: next :: rest) :
    exec .rxRelease s = .next (({ s with rq := next :: rest } : State).reply .ok [byte (next :: rest).length]) :=
  congrArg Host.Outcome.next (hostCommand_of_ok h (takeRxRelease_of_cons_cons hq))

/-- Settles O16: each command on an empty queue and on one with a head; the release of the last record, which
clears RX_READY, apart from a release that leaves records behind. -/
theorem rxReadShowsTheHeadAndRxReleaseRemovesIt : Obligations.RxReadShowsTheHeadAndRxReleaseRemovesIt := by
  refine ⟨fun s => exec_rxRead_of_nil, fun s => exec_rxRelease_of_nil, fun s r rest h hq => ?read,
    fun s r rest h hq => ?release⟩
  case read =>
    rw [exec_rxRead_of_cons h hq, RxRecord.bytes, be_two, be_four]
    rfl
  case release =>
    cases rest with
    | nil =>
      refine ⟨_, exec_rxRelease_of_singleton h hq, rfl, fun f hf => ?others, fun _ => ?ready,
        fun hne => absurd rfl hne⟩
      case others =>
        rw [flag_clearFlag, decide_eq_true hf.symm, Bool.and_true]
        rfl
      case ready => simp only [flag_clearFlag, ne_eq, not_true, decide_false, Bool.and_false]
    | cons next rest =>
      exact ⟨_, exec_rxRelease_of_cons_cons h hq, rfl, fun _ _ => rfl,
        fun hnil => absurd hnil (List.cons_ne_nil next rest), fun _ => rfl⟩

end Sys2Proof.Machine
end

section
/-! SUPPORT. REACT ARM and REACT DISARM (R151, R152): what arming and disarming do in each arm state, commands that
only CONFIG refuses, and the two commands assembled from these. -/

namespace Sys2Proof.Machine

/-! ## Arming and disarming, by the arm state -/

namespace State

variable {s : State} {r : Fin 24}

theorem armReaction_of_disarmed (h : (s.run r).arm = .disarmed) :
    s.armReaction r = s.setRun r { s.run r with arm := .armed } := by simp only [armReaction, h]

/-- An entry armed from SPENT gets its budget back. -/
theorem armReaction_of_spent (h : (s.run r).arm = .spent) :
    s.armReaction r = s.setRun r { s.run r with arm := .armed, remaining := (s.reaction r).budget } := by
  simp only [armReaction, h]

theorem armReaction_of_armed (h : (s.run r).arm = .armed) : s.armReaction r = s := by
  simp only [armReaction, h]

/-- An entry disarmed keeps what remains of its budget. -/
theorem disarmReaction_of_armed (h : (s.run r).arm = .armed) :
    s.disarmReaction r = s.setRun r { s.run r with arm := .disarmed } := by simp only [disarmReaction, h]

theorem disarmReaction_of_ne_armed (h : (s.run r).arm ≠ .armed) : s.disarmReaction r = s := by
  unfold disarmReaction
  split
  case h_1 harmed => exact absurd harmed h
  case h_2 => rfl
  case h_3 => rfl

/-- Whatever the arm state was, arming ends in ARMED. -/
theorem arm_run_armReaction (s : State) (r : Fin 24) : ((s.armReaction r).run r).arm = .armed := by
  cases h : (s.run r).arm with
  | disarmed => rw [armReaction_of_disarmed h, run_setRun_self]
  | armed => rw [armReaction_of_armed h, h]
  | spent => rw [armReaction_of_spent h, run_setRun_self]

end State

/-! ## Commands that only CONFIG refuses -/

theorem afterJoin_of_config {s : State} (h : s.lc.state = .config) (body : State → Taken) :
    afterJoin body s = .refuse s .state := if_pos h

theorem afterJoin_of_ne_config {s : State} (h : s.lc.state ≠ .config) (body : State → Taken) :
    afterJoin body s = body s := if_neg h

section
variable {s : State} {c : Instr} {n : Nat} [NeZero n] {b : Byte} {i : Fin n} {body : Fin n → State → Taken}

/-- In CONFIG such a command on a member of its table is refused with STATE. -/
theorem hostCommand_indexed_afterJoin_of_config (h : s.ready c) (hb : b.toNat = i.val)
    (hc : s.lc.state = .config) :
    s.hostCommand c (indexed n b fun i => afterJoin (body i)) = s.reply .state [] :=
  hostCommand_of_refuse h ((indexed_of_val b i hb _ s).trans (afterJoin_of_config hc _))

/-- After JOIN such a command that is carried out and hands nothing on is its taking with its reply. -/
theorem hostCommand_indexed_afterJoin_of_ok {t : State} {data : List Byte} (h : s.ready c)
    (hb : b.toNat = i.val) (hc : s.lc.state ≠ .config) (hok : body i s = .ok t data) :
    s.hostCommand c (indexed n b fun i => afterJoin (body i)) = t.reply .ok data :=
  hostCommand_of_ok h (((indexed_of_val b i hb _ s).trans (afterJoin_of_ne_config hc _)).trans hok)

end

/-! ## The commands -/

section
variable {s : State} {b : Byte} {r : Fin 24} (hb : b.toNat = r.val)
include hb

theorem exec_reactArm_of_config (h : s.ready (.reactArm b)) (hc : s.lc.state = .config) :
    exec (.reactArm b) s = .next (s.reply .state []) :=
  congrArg Host.Outcome.next (hostCommand_indexed_afterJoin_of_config h hb hc)

theorem exec_reactDisarm_of_config (h : s.ready (.reactDisarm b)) (hc : s.lc.state = .config) :
    exec (.reactDisarm b) s = .next (s.reply .state []) :=
  congrArg Host.Outcome.next (hostCommand_indexed_afterJoin_of_config h hb hc)

/-- REACT ARM after JOIN arms the entry, and its reply says ARMED. -/
theorem exec_reactArm_of_ne_config (h : s.ready (.reactArm b)) (hc : s.lc.state ≠ .config) :
    exec (.reactArm b) s = .next ((s.armReaction r).reply .ok [ArmState.armed.code]) :=
  congrArg Host.Outcome.next (hostCommand_indexed_afterJoin_of_ok h hb hc
    (by rw [State.arm_run_armReaction]))

/-- REACT DISARM after JOIN disarms the entry, and its reply says the arm state that this leaves. -/
theorem exec_reactDisarm_of_ne_config (h : s.ready (.reactDisarm b)) (hc : s.lc.state ≠ .config) :
    exec (.reactDisarm b) s
      = .next ((s.disarmReaction r).reply .ok [((s.disarmReaction r).run r).arm.code]) :=
  congrArg Host.Outcome.next (hostCommand_indexed_afterJoin_of_ok h hb hc rfl)

/-- REACT DISARM on an ARMED entry. -/
theorem exec_reactDisarm_of_armed (h : s.ready (.reactDisarm b)) (hc : s.lc.state ≠ .config)
    (ha : (s.run r).arm = .armed) : exec (.reactDisarm b) s
      = .next ((s.setRun r { s.run r with arm := .disarmed }).reply .ok [ArmState.disarmed.code]) := by
  rw [exec_reactDisarm_of_ne_config hb h hc, State.disarmReaction_of_armed ha, State.run_setRun_self]

/-- REACT DISARM on an entry that is not ARMED replies with the arm state as it stands. -/
theorem exec_reactDisarm_of_ne_armed (h : s.ready (.reactDisarm b)) (hc : s.lc.state ≠ .config)
    (ha : (s.run r).arm ≠ .armed) :
    exec (.reactDisarm b) s = .next (s.reply .ok [(s.run r).arm.code]) := by
  rw [exec_reactDisarm_of_ne_config hb h hc, State.disarmReaction_of_ne_armed ha]

end

/-- Settles O22: each command in CONFIG, and after JOIN by the arm state that it finds. -/
theorem reactArmAndDisarmMoveTheArmState : Obligations.ReactArmAndDisarmMoveTheArmState := by
  intro s b r hb
  refine ⟨exec_reactArm_of_config hb, fun h hc ha => ?arm_disarmed, fun h hc ha => ?arm_spent,
    fun h hc ha => ?arm_armed, exec_reactDisarm_of_config hb, exec_reactDisarm_of_armed hb,
    fun h hc ha => ?disarm_disarmed, fun h hc ha => ?disarm_spent⟩
  case arm_disarmed => rw [exec_reactArm_of_ne_config hb h hc, State.armReaction_of_disarmed ha]; rfl
  case arm_spent => rw [exec_reactArm_of_ne_config hb h hc, State.armReaction_of_spent ha]; rfl
  case arm_armed => rw [exec_reactArm_of_ne_config hb h hc, State.armReaction_of_armed ha]; rfl
  case disarm_disarmed => rw [exec_reactDisarm_of_ne_armed hb h hc (by simp [ha]), ha]; rfl
  case disarm_spent => rw [exec_reactDisarm_of_ne_armed hb h hc (by simp [ha]), ha]; rfl

end Sys2Proof.Machine
end

section
/-! SUPPORT. LINK READ and STATS READ (R42, R205): what the two read, what clearing the counters leaves, and the
commands assembled from these. No link state is asked for, because neither taking looks at it. -/

namespace Sys2Proof.Machine

namespace State

/-- The layout of LINK READ, with its numbers written out in bytes (R206). -/
theorem linkBytes_eq (s : State) : s.linkBytes =
    [s.lc.state.code, boolByte s.lc.held, boolByte s.lc.holdFlag] ++ two s.lc.pulse
      ++ [byte s.lc.failures, byte s.rq.length, s.hp.portErrors] ++ four s.now := by
  rw [linkBytes, be_two, be_four]

/-- The counters in the order of the table of R41. -/
def statTable : List Stat :=
  [.rxCheck, .rxStuff, .rxForm, .txBit, .txStuff, .txForm, .failed, .losses, .overruns, .stray, .crowded]

/-- The table of R41 numbers the places of the counters from 0 up and leaves none out. -/
theorem map_ix_statTable : statTable.map Stat.ix = List.finRange 11 := by decide

/-- The counters as they are stored stand in the order of the table of R41. -/
theorem stats_toList (s : State) : s.lc.stats.toList = statTable.map s.stat := by
  calc s.lc.stats.toList
      = (List.finRange 11).map fun i => s.lc.stats[i] := by
        refine List.ext_getElem (by simp) fun i _ _ => ?_
        simp
    _ = (statTable.map Stat.ix).map fun i => s.lc.stats[i] := by rw [map_ix_statTable]
    _ = statTable.map s.stat := List.map_map

theorem statsBytes_eq (s : State) : s.statsBytes = statTable.map fun c => byte (s.stat c) := by
  rw [statsBytes, stats_toList, List.map_map]
  rfl

/-- Clearing the counters leaves each of them at 0 (R42). -/
theorem stat_clearStats (s : State) (c : Stat) : s.clearStats.stat c = 0 :=
  Vector.getElem_replicate c.ix.isLt

end State

/-! ## The commands -/

theorem exec_linkRead {s : State} (h : s.ready .linkRead) :
    exec .linkRead s = .next (s.reply .ok s.linkBytes) :=
  congrArg Host.Outcome.next (hostCommand_of_ok h rfl)

/-- STATS READ replies with the counters as they stood before it cleared them. -/
theorem exec_statsRead {s : State} (h : s.ready .statsRead) :
    exec .statsRead s = .next (s.clearStats.reply .ok s.statsBytes) :=
  congrArg Host.Outcome.next (hostCommand_of_ok h rfl)

/-- Settles O12: LINK READ by its layout; STATS READ with the cleared state as the one that replies. -/
theorem linkAndStatsReadsReturnTheirValues : Obligations.LinkAndStatsReadsReturnTheirValues := by
  refine ⟨fun s h => ?link, fun s h => ⟨s.clearStats, ?stats, rfl, s.stat_clearStats⟩⟩
  case link =>
    rw [exec_linkRead h, State.linkBytes_eq]
    rfl
  case stats =>
    rw [exec_statsRead h, State.statsBytes_eq]
    rfl

end Sys2Proof.Machine
end

section
/-! SUPPORT. The step invariant of call tags (R114) as stated, with no premise that a DONE in flight has a FINISHING
entry: a state in which it has a FREE one, and what the settlement of that attempt makes of the table. -/

namespace Sys2Proof.Machine

/-- The obligations of a station with a DONE in flight whose entry 0 is FREE, at the last attempt that the retry limit
allows, while entry 1 is OPEN under the tag that a FREE entry shows. -/
def strayFlightEntries : Vector Obligation 8 :=
  ((Vector.replicate 8 Obligation.free).set 0 { Obligation.free with attempts := 3 }).set 1
    { Obligation.free with state := .opened }

/-- That station, the settlement of the attempt waiting and its row at the front of the queue. -/
def strayFlight : State :=
  { State.reset with
    lc := { LinkController.reset with
      inFlight := some (.obligation 0)
      due := [.attemptSettled .bit] }
    ou := { entries := strayFlightEntries, verdict := none }
    pending := [.attemptSettled] }

/-- No entry of it is RESERVED, and only entry 1 is not FREE. -/
theorem strayFlight_tagsInv : strayFlight.TagsInv := ⟨by decide +kernel, by decide +kernel⟩

/-- The settled attempt, before the arbiter's choice. -/
def strayFlightSettled : State :=
  let s := { strayFlight with pending := [], lc := { strayFlight.lc with due := [] } }
  ((s.handOutcome (.obligation 0) .bit []).1.countAttempt .bit).afterAttempt .bit

/-- The step hands the code to entry 0 and lets the arbiter choose. -/
theorem step_strayFlight : step strayFlight = .next strayFlightSettled.arbiter.ripen :=
  congrArg (fun t : State => Host.Outcome.next t.ripen) (settleTasks_choose strayFlightSettled)

/-- Entry 0 has become FAILED, under the tag that entry 1 holds. -/
theorem strayFlightSettled_shares_tag : (strayFlightSettled.obl 0).state ≠ .free
    ∧ (strayFlightSettled.obl 1).state ≠ .free
    ∧ (strayFlightSettled.obl 0).tag = (strayFlightSettled.obl 1).tag := by
  decide +kernel

/-- Refutes O56: the premise leaves open that the DONE in flight is of a FREE entry, which its settlement makes
FAILED under whatever tag it shows. -/
theorem not_stepKeepsTagsUnique : ¬ Obligations.StepKeepsTagsUnique := by
  intro keeps
  obtain ⟨hzero, hone, htag⟩ := strayFlightSettled_shares_tag
  have after := (keeps _ _ strayFlight_tagsInv step_strayFlight).tags_differ 0 1
  simp only [State.ripen_eq_setLc, State.obl_setLc, State.obl_arbiter] at after
  exact absurd (after hzero hone htag) (by decide)

end Sys2Proof.Machine
end

section
/-! SUPPORT. What each row can do, said once: the taking of a host command, the moves of the port, an action, and the
way from these to "every step keeps it". -/

namespace Sys2Proof.Machine

/-! ## The taking of each host command -/

/-- What the port carries out when the bytes of a host command are complete. -/
def takenBy : Instr → State → Taken
  | .join => takeJoin
  | .leave => takeLeave
  | .holdAssert => takeHoldAssert
  | .holdRelease => fun t => .ok t.clearOwnHold.arbiter
  | .linkRead => fun t => .ok t t.linkBytes
  | .statsRead => fun t => .ok t.clearStats t.statsBytes
  | .reset => fun t => .ok { t with hp := { t.hp with resetOrdered := true } }
  | .load kind index fields => takeLoad kind index fields
  | .slotWrite slot priority kind topic deadline length payload =>
    indexed 8 slot (takeSlotWrite (slotContent priority kind topic deadline length payload))
  | .slotRequest slot => indexed 8 slot takeSlotRequest
  | .slotAbort slot => indexed 8 slot takeSlotAbort
  | .slotClear slot => indexed 8 slot takeSlotClear
  | .slotRead slot => indexed 8 slot fun i t => .ok t (t.slot i).bytes
  | .rxRead => takeRxRead
  | .rxRelease => takeRxRelease
  | .callWithdraw entry => indexed 8 entry takeCallWithdraw
  | .callClear entry => indexed 8 entry takeCallClear
  | .callRead entry => indexed 8 entry fun k t => .ok t (t.call k).bytes
  | .oblFinish entry status count bytes => fun t =>
    if 6 < count.toNat then .refuse t .range
    else indexed 8 entry (takeOblFinish status (bytes.toList.take count.toNat)) t
  | .oblDiscard entry => indexed 8 entry takeOblDiscard
  | .oblRead entry => indexed 8 entry fun o t => .ok t ((t.obl o).bytes (t.doneInFlight o))
  | .reactArm reaction => indexed 24 reaction fun r => afterJoin fun t =>
    .ok (t.armReaction r) [((t.armReaction r).run r).arm.code]
  | .reactDisarm reaction => indexed 24 reaction fun r => afterJoin fun t =>
    .ok (t.disarmReaction r) [((t.disarmReaction r).run r).arm.code]
  | .reactForce reaction => indexed 24 reaction fun r => afterJoin (takeReactForce r)
  | .reactRead reaction => indexed 24 reaction fun r t => .ok t (t.reactionBytes r)
  | .timerStart timer => indexed 4 timer fun t => afterJoin fun u =>
    .ok (u.startTimer t) ((u.startTimer t).timer t).stateBytes
  | .timerStop timer => indexed 4 timer fun t => afterJoin fun u =>
    .ok (u.stopTimer t) ((u.stopTimer t).timer t).stateBytes
  | .timerLimit timer limit => fun u =>
    if limit = 0 then .refuse u .range
    else indexed 4 timer (fun t => afterJoin (takeTimerLimit limit.toNat t)) u
  | .timerRead timer => indexed 4 timer fun t u => .ok u (u.timer t).bytes
  | .counterRead counter => indexed 2 counter fun c u => .ok u (u.counter c).bytes
  | .counterClear counter => indexed 2 counter fun c => afterJoin fun u => .ok (u.clearCounter c)
  | .trainStart train => indexed 2 train fun g => afterJoin fun u =>
    .ok (u.startTrain g) ((u.startTrain g).train g).stateBytes
  | .trainStop train => indexed 2 train fun g => afterJoin fun u =>
    .ok (u.stopTrain g).1 ((u.stopTrain g).1.train g).stateBytes (separately (u.stopTrain g).2)
  | .trainRead train => indexed 2 train fun g u => .ok u (u.train g).bytes
  | .outputWrite lines levels => afterJoin (takeOutputWrite lines levels)
  | .linesRead => fun t => .ok t [t.inputByte, t.outputByte]
  | .flagsRead => fun t => .ok t.clearHeldFlags t.flagsBytes
  | .indexRead => fun t => .ok t [byte t.flagIndex]
  | .detailRead selector => takeDetailRead selector
  | .enableWrite enables => takeEnableWrite enables
  | .deviceReset _ _ | .hcsFall | .hcsRise _ | .unknownCommand _ | .peerSof | .sofDriven | .eodPoint
  | .placed | .crowded | .frameEnd | .receiveError | .attemptSettled | .recoveryGapCompletes
  | .integrationCompletes | .quietPeriodEnds | .holdDetected | .persistenceMark | .holdEnded
  | .pulseEnds | .timeStep _ | .deadlineExpiry _ | .timerExpire _ | .leadingEdge _
  | .trailingEdge _ | .inputEdge _ | .samplePoint _ | .byteCompletes _ => fun t => .ok t

/-- A host command is its transaction around its taking. -/
theorem exec_eq_hostCommand {c : Instr} (h : (encodeCommand c).isSome = true) (s : State) :
    exec c s = .next (s.hostCommand c (takenBy c)) := by
  cases c <;> first | exact absurd h Bool.false_ne_true | rfl

/-- A taking leaves the state as it was, or changes it in one of these ways. -/
inductive Took (s : State) : State → Prop
  | stay : Took s s
  | orderReset : Took s { s with hp := { s.hp with resetOrdered := true } }
  | joinConfig (hs : s.lc.state = .config) (hf : s.failures = []) :
      Took s { s.applyImage with lc := s.lc.joined s.image.station }
  | joinOffline (hs : s.lc.state = .offline) : Took s { s with lc := s.lc.joined s.image.station }
  | leave (hs : s.lc.state ≠ .config) (ho : s.lc.state ≠ .offline) : Took s (takeLeave s).state
  | holdAssert (hs : s.lc.state = .active) : Took s s.setHoldFlag
  | holdRelease : Took s s.clearOwnHold.arbiter
  | clearStats : Took s s.clearStats
  | load (kind index : Byte) (f : Vector Byte 11) (t : State) (hs : s.lc.state = .config)
      (ht : s.loadEntry kind index f = some t) : Took s t
  | slotWrite (priority kind : Byte) (topic deadline : BitVec 16) (length : Byte) (payload : Vector Byte 8)
      (x : Slot) (i : Fin 8) (hx : slotContent priority kind topic deadline length payload = some x)
      (hp : (s.slot i).state ≠ .pending) (hs : (s.slot i).state ≠ .sending) : Took s (s.setSlot i x)
  | slotRequest (i : Fin 8) (hs : s.lc.state ≠ .config) (ho : s.lc.state ≠ .offline) :
      Took s (s.requestSlot i).1
  | abortPending (i : Fin 8) (hp : (s.slot i).state = .pending) :
      Took s (s.arriveDone i .aborted []).1.arbiter
  | abortSending (i : Fin 8) (hs : (s.slot i).state = .sending) :
      Took s (s.setSlot i { s.slot i with abort := true, rerun := false })
  | slotClear (i : Fin 8) (hp : (s.slot i).state ≠ .pending) (hs : (s.slot i).state ≠ .sending) :
      Took s (s.setSlot i Slot.reset)
  | rxRelease (r : RxRecord) (rest : List RxRecord) (hq : s.rq = r :: rest) :
      Took s (if rest.isEmpty then { s with rq := rest }.clearFlag .rxReady else { s with rq := rest })
  | callWithdraw (k : Fin 8) (hk : (s.call k).state = .opened) :
      Took s (s.setCall k { s.call k with
        state := .withdrawing, withdrawPending := true, withdrawAttempts := 0, expiring := false }).arbiter
  | callClear (k : Fin 8) (hk : (s.call k).state = .settled) : Took s (s.releaseCall k)
  | oblFinish (o : Fin 8) (status : Byte) (bytes : List Byte)
      (ho : (s.obl o).state = .opened ∨ (s.obl o).state = .failed) : Took s (s.finishObl o status bytes)
  | oblDiscard (o : Fin 8) (hf : (s.obl o).state ≠ .reserved) (hd : s.doneInFlight o = true →
      (s.obl o).state ≠ .finishing) : Took s (s.freeObl o)
  | arm (r : Fin 24) (hs : s.lc.state ≠ .config) : Took s (s.armReaction r)
  | disarm (r : Fin 24) (hs : s.lc.state ≠ .config) : Took s (s.disarmReaction r)
  | force (r : Fin 24) (hs : s.lc.state ≠ .config) (ha : (s.run r).arm = .armed) :
      Took s ((s.fire r).state.takeForced r ((s.fire r).follow r))
  | timerStart (t : Fin 4) : Took s (s.startTimer t)
  | timerStop (t : Fin 4) : Took s (s.stopTimer t)
  | timerExpires (t : Fin 4) (limit : Nat) (hl : 0 < limit) :
      Took s (s.setTimer t { (s.timer t).expired with limit := limit })
  | timerLimit (t : Fin 4) (limit : Nat) (hl : 0 < limit) (he : (s.timer t).expiresBy limit = false) :
      Took s (s.setTimer t ((s.timer t).withLimit limit))
  | counterClear (c : Fin 2) : Took s (s.clearCounter c)
  | trainStart (g : Fin 2) (hs : s.lc.state ≠ .config) : Took s (s.startTrain g)
  | trainStop (g : Fin 2) (hs : s.lc.state ≠ .config) : Took s (s.stopTrain g).1
  | outputWrite (lines levels : Byte) (hs : s.lc.state ≠ .config) (hn : s.namesTrainLine lines = false) :
      Took s (s.writeOutputs lines levels)
  | flagsRead : Took s s.clearHeldFlags
  | emptySets (a b c d : BitVec 8) (e : BitVec 12) :
      Took s { s with eu := { s.eu with slotsDone := a, callsSettled := b, oblsOpened := c, oblsChanged := d,
                                        enables := e } }
  | emptyNotices : Took s { s with re := { s.re with notices := 0 } }
  | emptyMatches : Took s { s with au := { s.au with matchSet := 0 } }

/-- An index out of range leaves the state as it was. -/
theorem took_indexed {n : Nat} [NeZero n] {s : State} (b : Byte) {body : Fin n → State → Taken}
    (h : ∀ i, Took s (body i s).state) : Took s (indexed n b body s).state := by
  unfold indexed
  split
  · exact h _
  · exact .stay

/-- CONFIG leaves the state as it was. -/
theorem took_afterJoin {s : State} {body : State → Taken} (h : s.lc.state ≠ .config → Took s (body s).state) :
    Took s (afterJoin body s).state := by
  unfold afterJoin
  split
  · exact .stay
  · exact h ‹_›

theorem took_join (s : State) : Took s (takeJoin s).state := by
  unfold takeJoin
  split
  · split
    · exact .stay
    · exact .joinConfig ‹_› ‹_›
  · exact .joinOffline ‹_›
  all_goals exact .stay

theorem took_leave (s : State) : Took s (takeLeave s).state := by
  by_cases hs : s.lc.state = .config ∨ s.lc.state = .offline
  · rcases hs with hs | hs <;> simp only [takeLeave, hs] <;> exact .stay
  · exact .leave (fun h => hs (.inl h)) (fun h => hs (.inr h))

theorem took_load (s : State) (kind index : Byte) (f : Vector Byte 11) :
    Took s (takeLoad kind index f s).state := by
  unfold takeLoad
  split
  · exact .stay
  next hs =>
    split
    · exact .stay
    · split
      · exact .stay
      · split
        · exact .stay
        next ht => exact .load kind index f _ (not_not.mp hs) ht

theorem took_slotWrite (s : State) (priority kind : Byte) (topic deadline : BitVec 16) (length : Byte)
    (payload : Vector Byte 8) (i : Fin 8) :
    Took s (takeSlotWrite (slotContent priority kind topic deadline length payload) i s).state := by
  unfold takeSlotWrite
  split
  iterate 2 exact .stay
  all_goals
    split
    · exact .stay
    next hx => exact .slotWrite _ _ _ _ _ _ _ i hx (by simp [*]) (by simp [*])

/-- A request that is refused has changed nothing. -/
theorem requestSlot_refused {s t : State} {i : Fin 8}
    (h : s.requestSlot i = (t, .empty) ∨ s.requestSlot i = (t, .full)) : t = s := by
  unfold State.requestSlot at h
  rcases h with h | h <;> split at h <;> (try split at h) <;> cases h <;> rfl

theorem took_slotRequest (s : State) (i : Fin 8) : Took s (takeSlotRequest i s).state := by
  have asked (hs : s.lc.state ≠ .config) (ho : s.lc.state ≠ .offline) {t : State} {x : RequestResult}
      (h : s.requestSlot i = (t, x)) : Took s t := by
    have := Took.slotRequest (s := s) i hs ho
    rwa [h] at this
  unfold takeSlotRequest
  split
  iterate 2 exact .stay
  all_goals
    split
    iterate 2 exact .stay
    all_goals exact asked (by simp [*]) (by simp [*]) ‹_›

theorem took_slotAbort (s : State) (i : Fin 8) : Took s (takeSlotAbort i s).state := by
  unfold takeSlotAbort
  split
  · exact .abortPending i ‹_›
  · exact .abortSending i ‹_›
  all_goals exact .stay

theorem took_slotClear (s : State) (i : Fin 8) : Took s (takeSlotClear i s).state := by
  unfold takeSlotClear
  split
  iterate 3 exact .stay
  all_goals exact .slotClear i (by simp [*]) (by simp [*])

theorem took_rxRelease (s : State) : Took s (takeRxRelease s).state := by
  unfold takeRxRelease
  split
  · exact .stay
  · exact .rxRelease _ _ ‹_›

theorem took_callWithdraw (s : State) (k : Fin 8) : Took s (takeCallWithdraw k s).state := by
  unfold takeCallWithdraw
  split
  · exact .callWithdraw k ‹_›
  all_goals exact .stay

theorem took_callClear (s : State) (k : Fin 8) : Took s (takeCallClear k s).state := by
  unfold takeCallClear
  split
  · exact .callClear k ‹_›
  all_goals exact .stay

theorem took_oblFinish (s : State) (status : Byte) (bytes : List Byte) (o : Fin 8) :
    Took s (takeOblFinish status bytes o s).state := by
  unfold takeOblFinish
  split
  · exact .oblFinish o status bytes (.inl ‹_›)
  · exact .oblFinish o status bytes (.inr ‹_›)
  all_goals exact .stay

theorem took_oblDiscard (s : State) (o : Fin 8) : Took s (takeOblDiscard o s).state := by
  unfold takeOblDiscard
  split
  · split
    · exact .stay
    next hd => exact .oblDiscard o (by simp [*]) (fun h => absurd h hd)
  iterate 3 exact .oblDiscard o (by simp [*]) (by simp [*])
  all_goals exact .stay

theorem took_reactForce (s : State) (r : Fin 24) (hs : s.lc.state ≠ .config) :
    Took s (takeReactForce r s).state := by
  unfold takeReactForce
  split
  · exact .force r hs ‹_›
  all_goals exact .stay

theorem took_timerLimit (s : State) (limit : Nat) (hl : 0 < limit) (t : Fin 4) :
    Took s (takeTimerLimit limit t s).state := by
  unfold takeTimerLimit
  split
  · exact .timerExpires t limit hl
  next he => exact .timerLimit t limit hl (Bool.eq_false_iff.mpr he)

theorem took_outputWrite (s : State) (lines levels : Byte) (hs : s.lc.state ≠ .config) :
    Took s (takeOutputWrite lines levels s).state := by
  unfold takeOutputWrite
  split
  · exact .stay
  next hn => exact .outputWrite lines levels hs (Bool.eq_false_iff.mpr hn)

theorem took_detailRead (s : State) (selector : Byte) : Took s (takeDetailRead selector s).state := by
  unfold takeDetailRead
  split
  · exact .emptySets 0 _ _ _ _
  · exact .emptySets _ 0 _ _ _
  · exact .emptySets _ _ 0 _ _
  · exact .emptySets _ _ _ 0 _
  · exact .emptyNotices
  · exact .emptyMatches
  · exact .stay

theorem took_enableWrite (s : State) (enables : BitVec 16) : Took s (takeEnableWrite enables s).state := by
  unfold takeEnableWrite
  split
  · exact .stay
  · exact .emptySets _ _ _ _ _

/-- Every taking is one of the ways listed. -/
theorem took_takenBy (c : Instr) (s : State) : Took s (takenBy c s).state := by
  cases c with
  | join => exact took_join s
  | leave => exact took_leave s
  | holdAssert =>
    simp only [takenBy, takeHoldAssert]
    split
    · exact .holdAssert ‹_›
    · exact .stay
  | holdRelease => exact .holdRelease
  | statsRead => exact .clearStats
  | reset => exact .orderReset
  | load kind index fields => exact took_load s kind index fields
  | slotWrite slot priority kind topic deadline length payload =>
    exact took_indexed slot (took_slotWrite s priority kind topic deadline length payload)
  | slotRequest slot => exact took_indexed slot (took_slotRequest s)
  | slotAbort slot => exact took_indexed slot (took_slotAbort s)
  | slotClear slot => exact took_indexed slot (took_slotClear s)
  | rxRead => simp only [takenBy, takeRxRead]; split <;> exact .stay
  | rxRelease => exact took_rxRelease s
  | callWithdraw entry => exact took_indexed entry (took_callWithdraw s)
  | callClear entry => exact took_indexed entry (took_callClear s)
  | oblFinish entry status count bytes =>
    simp only [takenBy]
    split
    · exact .stay
    · exact took_indexed entry (took_oblFinish s status _)
  | oblDiscard entry => exact took_indexed entry (took_oblDiscard s)
  | reactArm reaction => exact took_indexed reaction fun r => took_afterJoin (.arm r)
  | reactDisarm reaction => exact took_indexed reaction fun r => took_afterJoin (.disarm r)
  | reactForce reaction => exact took_indexed reaction fun r => took_afterJoin (took_reactForce s r)
  | timerStart timer => exact took_indexed timer fun t => took_afterJoin fun _ => .timerStart t
  | timerStop timer => exact took_indexed timer fun t => took_afterJoin fun _ => .timerStop t
  | timerLimit timer limit =>
    simp only [takenBy]
    split
    · exact .stay
    next hl =>
      have hpos : 0 < limit.toNat := Nat.pos_of_ne_zero fun h => hl (BitVec.eq_of_toNat_eq h)
      exact took_indexed timer fun t => took_afterJoin fun _ => took_timerLimit s _ hpos t
  | counterClear counter => exact took_indexed counter fun c => took_afterJoin fun _ => .counterClear c
  | trainStart train => exact took_indexed train fun g => took_afterJoin (.trainStart g)
  | trainStop train => exact took_indexed train fun g => took_afterJoin (.trainStop g)
  | outputWrite lines levels => exact took_afterJoin (took_outputWrite s lines levels)
  | flagsRead => exact .flagsRead
  | detailRead selector => exact took_detailRead s selector
  | enableWrite enables => exact took_enableWrite s enables
  | slotRead slot => exact took_indexed slot fun _ => .stay
  | callRead entry => exact took_indexed entry fun _ => .stay
  | oblRead entry => exact took_indexed entry fun _ => .stay
  | reactRead reaction => exact took_indexed reaction fun _ => .stay
  | timerRead timer => exact took_indexed timer fun _ => .stay
  | counterRead counter => exact took_indexed counter fun _ => .stay
  | trainRead train => exact took_indexed train fun _ => .stay
  | _ => exact .stay

/-! ## The moves of the port -/

/-- What the rows of the port, and the bytes that take no command, do. -/
inductive PortStep (s : State) : State → Prop
  | stay : PortStep s s
  | reset (held hcsLow : Bool) : PortStep s (s.deviceReset held hcsLow)
  | fall : PortStep s s.fallHcs
  | rise (clocked : Bool) (hd : s.hp.phase ≠ .deselected) (hr : s.hp.phase ≠ .inReset) :
      PortStep s (s.riseHcs clocked)
  | unknown (code : Byte) (hr : s.hp.phase ≠ .inReset) :
      PortStep s ((s.beginTransaction [code]).reply .unknown [])
  | gather (code : Byte) (n : Nat) (hp : s.hp.phase = .command) (hc : paramCount code = some (n + 1)) :
      PortStep s { s with hp := { s.hp with phase := .parameters [code], hso := some 0 } }
  | more (got : List Byte) (b : Byte) (n : Nat) (hp : s.hp.phase = .parameters got)
      (hc : got.head?.bind paramCount = some n) (hn : got.length < n) :
      PortStep s { s with hp := { s.hp with phase := .parameters (got ++ [b]) } }
  | shift (left : List Byte) (hp : s.hp.phase = .reply left) : PortStep s (replyByte left s)
  | trail (hp : s.hp.phase = .trailing) : PortStep s { s with hp := { s.hp with hso := some 0 } }

/-- A move of the port changes the port alone, or is a device reset. -/
theorem PortStep.hp_or_reset {s t : State} (h : PortStep s t) :
    (∃ x, t = { s with hp := x }) ∨ ∃ held hcsLow x, t = { s.deviceReset held hcsLow with hp := x } := by
  have rise (clocked : Bool) : (∃ x, s.riseHcs clocked = { s with hp := x })
      ∨ ∃ held hcsLow x, s.riseHcs clocked = { s.deviceReset held hcsLow with hp := x } := by
    unfold State.riseHcs
    dsimp only
    split
    · exact .inr ⟨false, false, _, rfl⟩
    · exact .inl ⟨_, rfl⟩
  have fall (u : State) : ∃ x, u.fallHcs = { u with hp := x } := by
    unfold State.fallHcs
    split <;> exact ⟨_, rfl⟩
  cases h with
  | reset held hcsLow => exact .inr ⟨held, hcsLow, _, rfl⟩
  | fall => exact .inl (fall s)
  | rise clocked => exact rise clocked
  | unknown code =>
    unfold State.beginTransaction
    split
    · exact .inl ⟨_, rfl⟩
    · obtain ⟨x, hx⟩ := fall (s.riseHcs true)
      rw [hx]
      rcases rise true with ⟨y, hy⟩ | ⟨held, hcsLow, y, hy⟩ <;> rw [hy]
      · exact .inl ⟨_, rfl⟩
      · exact .inr ⟨held, hcsLow, _, rfl⟩
  | _ => exact .inl ⟨_, rfl⟩

/-! ## The actions -/

/-- What an action of entry `r` can make of the state (R134, R146 to R150). -/
inductive Acts (s : State) (r : Fin 24) : State → Prop
  | stay : Acts s r s
  | send (i : Fin 8) (hs : s.lc.state ≠ .config) (ho : s.lc.state ≠ .offline) : Acts s r (s.requestSlot i).1
  | timerStart (t : Fin 4) (parameter : BitVec 16) : Acts s r (s.actTimerStart t parameter)
  | timerStop (t : Fin 4) : Acts s r (s.stopTimer t)
  | trainStart (g : Fin 2) : Acts s r (s.startTrain g)
  | trainStop (g : Fin 2) : Acts s r (s.stopTrain g).1
  | output (k : Fin 8) (level : Bool) (hk : (s.output k).owner = .level) : Acts s r (s.driveOutput k level)
  | counterClear (c : Fin 2) : Acts s r (s.clearCounter c)
  | arm (q : Fin 24) : Acts s r (s.armReaction q)
  | disarm (q : Fin 24) : Acts s r (s.disarmReaction q)
  | finish (o : Fin 8) (status : Byte) (ho : (s.obl o).state = .opened) : Acts s r (s.finishObl o status [])
  | holdPulse (parameter : BitVec 16) (hs : s.lc.state = .active) :
      Acts s r (s.startPulse (s.pulseLength parameter))
  | notify (code : Byte) : Acts s r (s.actNotify r code)

/-- Every action is one of the ways listed. -/
theorem acts_perform (s : State) (r : Fin 24) : Acts s r (s.perform r).state := by
  have sends (hs : s.lc.state ≠ .config) (ho : s.lc.state ≠ .offline) {i : Fin 8} {t : State}
      {x : RequestResult} (h : s.requestSlot i = (t, x)) : Acts s r t := by
    have := Acts.send (s := s) (r := r) i hs ho
    rwa [h] at this
  unfold State.perform
  dsimp only
  split
  · unfold State.actSend
    split
    iterate 2 exact .stay
    all_goals split <;> exact sends (by simp [*]) (by simp [*]) ‹_›
  · exact .timerStart _ _
  · exact .timerStop _
  · exact .trainStart _
  · exact .trainStop _
  iterate 3
    · unfold State.actOutput
      split
      · exact .output _ _ ‹_›
      · exact .stay
  · exact .counterClear _
  · exact .arm _
  · exact .disarm _
  · unfold State.actFinish
    split
    next ho => exact .finish _ _ (oldestOpen_some ho).1
    · exact .stay
  · unfold State.actHoldPulse
    split
    · exact .holdPulse _ ‹_›
    · exact .stay
  · exact .notify _

end Sys2Proof.Machine
end

section
/-! SUPPORT. The way from the parts of a row to the row: a property that the parts keep is kept by every step. -/

namespace Sys2Proof.Machine

/-! ## Takings and the events of one instant -/

/-- A property that the Reaction Engine and the events of one instant keep, event by event. A firing is asked for
only of an armed entry outside CONFIG, where alone there are any (R137, R139, R153). -/
structure TasksKept (P : State → Prop) : Prop where
  free : ∀ s n, P s → P { s with freeCount := n }
  fire : ∀ s r, s.lc.state ≠ .config → (s.run r).arm = .armed → P s → P (s.fire r).state
  suppress : ∀ s r o root, P s → P (s.suppress r o root)
  matchFrame : ∀ s x, P s → P (State.matchFrame s x).1
  openObligation : ∀ s, P s → P (State.openObligation s).1
  doneArrival : ∀ s x, P s → P (State.doneArrival s x).1
  withdrawArrival : ∀ s x, P s → P (State.withdrawArrival s x).1
  choose : ∀ s, P s → P (State.arbiter s)
  count : ∀ s c k e, P s → P (State.countEdge s c k e).1

section
variable {P : State → Prop}

theorem fire_linkState (s : State) (r : Fin 24) : (s.fire r).state.lc.state = s.lc.state := by
  rw [(same_fire s r).link]

theorem suppress_linkState (s : State) (r : Fin 24) (o : Occurrence) (root : Root) :
    (s.suppress r o root).lc.state = s.lc.state := rfl

/-- A pass outside CONFIG keeps what the firings of armed entries keep. -/
theorem firingPass_keeps_joined (fire : ∀ s r, s.lc.state ≠ .config → (s.run r).arm = .armed → P s →
      P (s.fire r).state) (o : Occurrence) (l : List (Fin 24)) (p : State × List Occurrence)
    (hc : p.1.lc.state ≠ .config) (h : P p.1) :
    (l.foldl (firingTurn o) p).1.lc.state ≠ .config ∧ P (l.foldl (firingTurn o) p).1 := by
  induction l generalizing p with
  | nil => exact ⟨hc, h⟩
  | cons r t ih =>
    rw [List.foldl_cons]
    unfold firingTurn
    split
    next hr =>
      have harm : (p.1.run r).arm = .armed := by
        simp only [State.reached, Bool.and_eq_true, beq_iff_eq] at hr
        exact hr.1.2
      exact ih _ (by rw [fire_linkState]; exact hc) (fire _ _ hc harm h)
    · exact ih _ hc h

/-- A taking outside CONFIG keeps what the firings of armed entries and the suppressions keep. -/
theorem taking_keeps_joined (fire : ∀ s r, s.lc.state ≠ .config → (s.run r).arm = .armed → P s →
      P (s.fire r).state) (supp : ∀ s r o root, P s → P (s.suppress r o root)) (n : Nat) (root : Root)
    (o : Occurrence) (s : State) (hc : s.lc.state ≠ .config) (h : P s) :
    (taking n root o s).lc.state ≠ .config ∧ P (taking n root o s) := by
  induction n generalizing o s with
  | zero =>
    have pass (l : List (Fin 24)) : (l.foldl (suppressedTurn root o) s).lc.state ≠ .config
        ∧ P (l.foldl (suppressedTurn root o) s) :=
      suppressedPass_keeps (P := fun t => t.lc.state ≠ .config ∧ P t) root o
        (fun t r o root ht => ⟨ht.1, supp t r o root ht.2⟩) l s ⟨hc, h⟩
    rw [taking]
    exact pass _
  | succ n ih =>
    have members (l : List Occurrence) (t : State) (ht : t.lc.state ≠ .config ∧ P t) :
        (l.foldl (fun t x => taking n root x t) t).lc.state ≠ .config
          ∧ P (l.foldl (fun t x => taking n root x t) t) :=
      foldl_keeps (P := fun t => t.lc.state ≠ .config ∧ P t) _ (fun t x ht => ih x t ht.1 ht.2) l t ht
    rw [taking]
    exact members _ _ (firingPass_keeps_joined fire o (List.finRange 24) (s, []) hc h)

namespace TasksKept

variable (K : TasksKept P)
include K

theorem take (s : State) (o : Occurrence) (h : P s) : P (s.take o) := by
  unfold State.take
  split
  · exact h
  next hc => exact (taking_keeps_joined K.fire K.suppress _ _ o s hc h).2

theorem task (s : State) (t : Task) (h : P s) : P (t.run s).1 := by
  cases t with
  | take o => exact K.take s o h
  | matchFrame x => exact K.matchFrame s x h
  | openObligation => exact K.openObligation s h
  | doneArrival x => exact K.doneArrival s x h
  | withdrawArrival x => exact K.withdrawArrival s x h
  | choose => exact K.choose s h
  | count c k e => exact K.count s c k e h

theorem settleTasks (s : State) (series : List (List Task)) (h : P s) : P (s.settleTasks series) :=
  settleTasks_keeps K.task K.free series s h

/-- A forced firing with the rest of its chain (R153). -/
theorem force (s : State) (r : Fin 24) (hc : s.lc.state ≠ .config) (ha : (s.run r).arm = .armed) (h : P s) :
    P ((s.fire r).state.takeForced r ((s.fire r).follow r)) := by
  unfold State.takeForced
  refine (foldl_keeps (P := fun t => t.lc.state ≠ .config ∧ P t) _ ?_ _ _
    ⟨by rw [fire_linkState]; exact hc, K.fire s r hc ha h⟩).2
  exact fun t x ht => taking_keeps_joined K.fire K.suppress _ _ x t ht.1 ht.2

end TasksKept
end

/-! ## Rows -/

/-- A property that every part of a row keeps: the moves of the port, host commands, line events that are permitted
and the end of waiting of those that are not, and the events of time and samples. -/
structure RowsKept (P : State → Prop) : Prop where
  port : ∀ s t, PortStep s t → P s → P t
  command : ∀ c s, P s → P (s.hostCommand c (takenBy c))
  stale : ∀ s e, e ∈ s.lc.due → s.lc.permits e = false → P s → P (s.setLc { s.lc with due := s.lc.due.erase e })
  carry : ∀ s e, e ∈ s.lc.due → s.lc.permits e = true → P s →
    P ((s.setLc { s.lc with due := s.lc.due.erase e }).carryOut e)
  sof : ∀ s c, s.sofReady = some c → P s → P (s.driveSof c)
  edge : ∀ s k, P s → P (State.edgeInput s k)
  timer : ∀ s t, P s → P (State.expireTimer s t)
  lead : ∀ s g, P s → P (State.leadTrain s g)
  trail : ∀ s g, P s → P (State.trailTrain s g)
  call : ∀ s k, P s → P (State.expireCall s k)
  tick : ∀ s inputs, P s → P (State.tick s inputs)
  readBit : ∀ s level, s.lc.phase ≠ .out → s.lc.due = [] → P s → P (State.readBit s level)

theorem carryFirst_keeps_due {P : State → Prop}
    (stale : ∀ s e, e ∈ s.lc.due → s.lc.permits e = false → P s →
      P (s.setLc { s.lc with due := s.lc.due.erase e }))
    (carry : ∀ s e, e ∈ s.lc.due → s.lc.permits e = true → P s →
      P ((s.setLc { s.lc with due := s.lc.due.erase e }).carryOut e))
    (s : State) (p : LineEvent → Bool) (h : P s) : P (s.carryFirst p) := by
  unfold State.carryFirst
  split
  next e he =>
    have hmem := List.mem_of_find?_eq_some he
    dsimp only
    split
    next hp => exact carry s e hmem hp h
    next hp => exact stale s e hmem (Bool.eq_false_iff.mpr hp) h
  · exact h

namespace RowsKept

variable {P : State → Prop} (K : RowsKept P)
include K

theorem carryFirst (s : State) (p : LineEvent → Bool) (h : P s) : P (s.carryFirst p) :=
  carryFirst_keeps_due K.stale K.carry s p h

theorem drainLine (n : Nat) (s : State) (h : P s) : P (drainLine n s) := by
  induction n generalizing s with
  | zero => exact h
  | succ n ih => exact ih _ (K.carryFirst s _ h)

theorem settleDue (s : State) (h : P s) : P s.settleDue :=
  drainTime_keeps _ K.edge K.timer K.lead K.trail K.call (K.drainLine _ s h)

theorem driveDueSof (s : State) (h : P s) : P s.driveDueSof := by
  unfold State.driveDueSof
  split
  · exact K.sof _ _ ‹_› h
  · exact h

theorem inBitTime (s : State) (h : P s) : P s.inBitTime := K.driveDueSof _ (K.settleDue s h)

end RowsKept

end Sys2Proof.Machine
end

section
/-! SUPPORT. What the owners of transmissions (Outbox, Call Unit, Obligation Unit) leave as it was: every operation of
theirs works on its own table, raises flags and marks detail sets, counts statistics and moves the choice held. -/

namespace Sys2Proof.Machine

/-- Every statistic is in its range (R41). -/
def LinkController.StatsInv (lc : LinkController) : Prop := ∀ c : Stat, lc.stats[c.ix] ≤ 255

/-- Only the tables of the owners, their reports, the statistics and the choice held differ, and RX_READY does not. -/
structure OwnersFrame (s t : State) : Prop where
  rest : t = { s with lc := t.lc, outbox := t.outbox, cu := t.cu, ou := t.ou, eu := t.eu }
  link : t.lc = { s.lc with choice := t.lc.choice, stats := t.lc.stats }
  ready : t.flag .rxReady = s.flag .rxReady
  /-- where no choice may be held, none comes to be held -/
  unchosen : s.mayChoose = false → s.lc.choice = none → t.lc.choice = none
  /-- the statistics saturate -/
  counted : s.lc.StatsInv → t.lc.StatsInv

namespace OwnersFrame

variable {s t u : State}

theorem refl (s : State) : OwnersFrame s s := ⟨rfl, rfl, rfl, fun _ hc => hc, id⟩

theorem mayChoose (h : OwnersFrame s t) : t.mayChoose = s.mayChoose := by
  unfold State.mayChoose State.permission State.ownHold
  rw [h.link]

theorem trans (h : OwnersFrame s t) (k : OwnersFrame t u) : OwnersFrame s u where
  rest := by rw [k.rest, h.rest]
  link := by rw [k.link, h.link]
  ready := k.ready.trans h.ready
  unchosen hm hc := k.unchosen (h.mayChoose.trans hm) (h.unchosen hm hc)
  counted hs := k.counted (h.counted hs)

/-! ## What it leaves -/

theorem au (h : OwnersFrame s t) : t.au = s.au := by rw [h.rest]
theorem rq (h : OwnersFrame s t) : t.rq = s.rq := by rw [h.rest]
theorem re (h : OwnersFrame s t) : t.re = s.re := by rw [h.rest]
theorem tu (h : OwnersFrame s t) : t.tu = s.tu := by rw [h.rest]
theorem lu (h : OwnersFrame s t) : t.lu = s.lu := by rw [h.rest]
theorem hp (h : OwnersFrame s t) : t.hp = s.hp := by rw [h.rest]
theorem image (h : OwnersFrame s t) : t.image = s.image := by rw [h.rest]
theorem pending (h : OwnersFrame s t) : t.pending = s.pending := by rw [h.rest]
theorem linkState (h : OwnersFrame s t) : t.lc.state = s.lc.state := by rw [h.link]
theorem phase (h : OwnersFrame s t) : t.lc.phase = s.lc.phase := by rw [h.link]
theorem due (h : OwnersFrame s t) : t.lc.due = s.lc.due := by rw [h.link]
theorem inFlight (h : OwnersFrame s t) : t.lc.inFlight = s.lc.inFlight := by rw [h.link]
theorem now (h : OwnersFrame s t) : t.now = s.now := by rw [State.now, h.tu]; rfl

/-! ## The updates that the operations are built from -/

theorem setSlot (h : OwnersFrame s t) (i : Fin 8) (x : Slot) : OwnersFrame s (t.setSlot i x) :=
  h.trans ⟨rfl, rfl, rfl, fun _ hc => hc, id⟩

theorem setCall (h : OwnersFrame s t) (k : Fin 8) (x : CallEntry) : OwnersFrame s (t.setCall k x) :=
  h.trans ⟨rfl, rfl, rfl, fun _ hc => hc, id⟩

theorem setObl (h : OwnersFrame s t) (o : Fin 8) (x : Obligation) : OwnersFrame s (t.setObl o x) :=
  h.trans ⟨rfl, rfl, rfl, fun _ hc => hc, id⟩

theorem setVerdict (h : OwnersFrame s t) (v : Option Verdict) : OwnersFrame s (t.setVerdict v) :=
  h.trans ⟨rfl, rfl, rfl, fun _ hc => hc, id⟩

theorem setFlag (h : OwnersFrame s t) (f : Flag) (hf : f ≠ .rxReady) : OwnersFrame s (t.setFlag f) :=
  h.trans ⟨rfl, rfl, by simp [flag_setFlag, hf], fun _ hc => hc, id⟩

theorem addSlotDone (h : OwnersFrame s t) (i : Fin 8) : OwnersFrame s (t.addSlotDone i) := h.trans ⟨rfl, rfl, rfl, fun _ hc => hc, id⟩

theorem addCallSettled (h : OwnersFrame s t) (k : Fin 8) : OwnersFrame s (t.addCallSettled k) :=
  h.trans ⟨rfl, rfl, rfl, fun _ hc => hc, id⟩

theorem addOblOpened (h : OwnersFrame s t) (o : Fin 8) : OwnersFrame s (t.addOblOpened o) := h.trans ⟨rfl, rfl, rfl, fun _ hc => hc, id⟩

theorem noteOblChanged (h : OwnersFrame s t) (o : Fin 8) : OwnersFrame s (t.noteOblChanged o) :=
  (h.trans (u := t.addOblChanged o) ⟨rfl, rfl, rfl, fun _ hc => hc, id⟩).setFlag .oblNote (by decide)

theorem arbiter (h : OwnersFrame s t) : OwnersFrame s t.arbiter := by
  refine h.trans ?_
  have hchoice (hm : t.mayChoose = false) (hc : t.lc.choice = none) : t.arbiter.lc.choice = none := by
    rw [t.arbiter_of_not_mayChoose hm hc]
    exact hc
  rw [t.arbiter_eq]
  exact ⟨rfl, rfl, rfl, hchoice, id⟩

theorem countStat (h : OwnersFrame s t) (c : Stat) : OwnersFrame s (t.countStat c) := by
  have hready : (t.countStat c).flag .rxReady = t.flag .rxReady := by
    rw [State.countStat_eq, flag_setFlag, decide_eq_false (by decide), Bool.or_false]
    rfl
  refine h.trans ⟨rfl, rfl, hready, fun _ hc => hc, fun hs d => ?_⟩
  show (t.countStat c).stat d ≤ 255
  rw [stat_countStat]
  split
  · exact Nat.min_le_right _ _
  · exact hs d

/-! ## The Call Unit and the Outbox -/

theorem settleCall (h : OwnersFrame s t) (k : Fin 8) (o : CallOutcome) : OwnersFrame s (t.settleCall k o) :=
  (((h.setCall k _).setFlag .callSettled (by decide)).addCallSettled k).arbiter

theorem openCall (h : OwnersFrame s t) (k : Fin 8) (l : List Byte) : OwnersFrame s (t.openCall k l).1 := by
  unfold State.openCall
  dsimp only
  split
  · exact (h.setCall k _).settleCall k _
  · exact h.setCall k _

theorem newRequest (h : OwnersFrame s t) {i : Fin 8} (hu : t.newRequest i = some u) : OwnersFrame s u := by
  unfold State.newRequest at hu
  split at hu
  · cases hu
    exact (h.setSlot i _).arbiter
  · split at hu
    · cases hu
    · cases hu
      exact ((h.setCall _ _).setSlot i _).arbiter

theorem requestSlot (h : OwnersFrame s t) (i : Fin 8) : OwnersFrame s (t.requestSlot i).1 := by
  unfold State.requestSlot
  split
  iterate 2 exact h
  · exact h.setSlot i _
  all_goals
    split
    next hu => exact h.newRequest hu
    · exact h

theorem endBinding (h : OwnersFrame s t) (i : Fin 8) (d : DoneState) (l : List Byte) :
    OwnersFrame s (t.endBinding i d l).1 := by
  unfold State.endBinding
  split
  · split
    · exact h.openCall _ l
    · exact (h.setCall _ _).setSlot i _
  · exact h

theorem applyRerun (h : OwnersFrame s t) (i : Fin 8) : OwnersFrame s (t.applyRerun i) := by
  unfold State.applyRerun
  split
  · split
    next hu => exact h.newRequest hu
    · exact (h.setSlot i _).setFlag .callNote (by decide)
  · exact h

theorem arriveDone (h : OwnersFrame s t) (i : Fin 8) (d : DoneState) (l : List Byte) :
    OwnersFrame s (t.arriveDone i d l).1 :=
  ((((h.setSlot i _).setFlag .slotDone (by decide)).addSlotDone i).endBinding i d l).applyRerun i

theorem returnPending (h : OwnersFrame s t) (i : Fin 8) (x : Slot) : OwnersFrame s (t.returnPending i x).1 :=
  (h.setSlot i _).arbiter

theorem slotOutcome (h : OwnersFrame s t) (i : Fin 8) (c : TxCode) (l : List Byte) :
    OwnersFrame s (t.slotOutcome i c l).1 := by
  have arrive (x : Slot) (d : DoneState) (l : List Byte) : OwnersFrame s ((t.setSlot i x).arriveDone i d l).1 :=
    (h.setSlot i x).arriveDone i d l
  have back (x : Slot) : OwnersFrame s (t.returnPending i x).1 := h.returnPending i x
  unfold State.slotOutcome
  dsimp only
  split
  · exact arrive _ _ _
  iterate 2
    · split
      · exact arrive _ _ _
      · exact back _
  all_goals
    split
    · exact arrive _ _ _
    · split
      · exact arrive _ _ _
      · exact back _

theorem withdrawOutcome (h : OwnersFrame s t) (k : Fin 8) (c : TxCode) :
    OwnersFrame s (t.withdrawOutcome k c).1 := by
  unfold State.withdrawOutcome
  split
  · exact h.settleCall k _
  iterate 2 exact h
  all_goals
    dsimp only
    split
    · exact (h.setCall k _).settleCall k _
    · exact h.setCall k _

theorem doneArrival (h : OwnersFrame s t) (x : RxFrame) : OwnersFrame s (t.doneArrival x).1 := by
  unfold State.doneArrival
  dsimp only
  split
  · unfold State.collectDone
    dsimp only
    split
    · exact (h.setCall _ _).settleCall _ _
    · exact h.setCall _ _
  · split
    · exact (h.setCall _ _).setFlag .callNote (by decide)
    · exact (h.countStat .stray).setFlag .callNote (by decide)

/-! ## The Obligation Unit -/

theorem finishObl (h : OwnersFrame s t) (o : Fin 8) (status : Byte) (bytes : List Byte) :
    OwnersFrame s (t.finishObl o status bytes) := (h.setObl o _).arbiter

theorem freeObl (h : OwnersFrame s t) (o : Fin 8) : OwnersFrame s (t.freeObl o) := (h.setObl o _).arbiter

theorem doneOutcome (h : OwnersFrame s t) (o : Fin 8) (c : TxCode) : OwnersFrame s (t.doneOutcome o c) := by
  unfold State.doneOutcome
  split
  · exact (h.setObl o _).noteOblChanged o
  iterate 2 exact h
  all_goals
    dsimp only
    split
    · exact (h.setObl o _).noteOblChanged o
    · exact h.setObl o _

theorem releaseVerdict (h : OwnersFrame s t) : OwnersFrame s t.releaseVerdict := by
  rcases t.releaseVerdict_eq with e | ⟨o, -, e⟩ <;> rw [e]
  · exact h
  · exact h.setObl o _

theorem breakVerdict (h : OwnersFrame s t) : OwnersFrame s t.breakVerdict := h.releaseVerdict.setVerdict none

theorem takeVerdict (h : OwnersFrame s t) (tag : CallTag) (topic : Topic) (f : Fin 16) :
    OwnersFrame s (t.takeVerdict tag topic f).1 := by
  unfold State.takeVerdict
  split
  · exact h
  · split
    · unfold State.reserveObl State.supersede
      split
      · exact ((h.setObl _ _).noteOblChanged _).setObl _ _
      · exact h.setObl _ _
    · exact h

theorem openObligation (h : OwnersFrame s t) : OwnersFrame s t.openObligation.1 := by
  unfold State.openObligation
  split
  · split
    · exact (((h.setObl _ _).setFlag .oblOpened (by decide)).addOblOpened _).setVerdict none
    · exact h.setVerdict none
  · exact h.breakVerdict

theorem withdrawArrival (h : OwnersFrame s t) (x : RxFrame) : OwnersFrame s (t.withdrawArrival x).1 := by
  unfold State.withdrawArrival
  split
  · split
    · exact h
    · exact ((h.setObl _ _).noteOblChanged _).arbiter
  · exact h

/-! ## Statistics -/

theorem countAttempt (h : OwnersFrame s t) (c : TxCode) : OwnersFrame s (t.countAttempt c) := by
  cases c
  case ok | hold => exact h
  case lost => exact h.countStat .losses
  all_goals exact (h.countStat _).countStat .failed

theorem countReceive (h : OwnersFrame s t) (c : RxCode) : OwnersFrame s (t.countReceive c) := by
  cases c <;> exact h.countStat _

end OwnersFrame

/-- An owner with its outcome: besides what owners change, nothing is in flight any more. -/
theorem ownersFrame_handOutcome (s : State) (c : Candidate) (code : TxCode) (l : List Byte) :
    OwnersFrame (s.setLc { s.lc with inFlight := none }) (s.handOutcome c code l).1 := by
  unfold State.handOutcome
  dsimp only
  split
  · exact (OwnersFrame.refl _).slotOutcome _ code l
  · exact (OwnersFrame.refl _).doneOutcome _ code
  · exact (OwnersFrame.refl _).withdrawOutcome _ code

/-- The code handed to the owner of the candidate in flight, where there is one. -/
theorem ownersFrame_handInFlight (s : State) (code : TxCode) (l : List Byte) :
    OwnersFrame (s.setLc { s.lc with inFlight := none }) (s.handInFlight code l).1 := by
  unfold State.handInFlight
  split
  · exact ownersFrame_handOutcome s _ code l
  next hn =>
    have : s.setLc { s.lc with inFlight := none } = s := by rw [← hn]; rfl
    rw [this]
    exact OwnersFrame.refl s

/-! ## Matching -/

/-- The matching of a frame marks the filters that match, and may offer one record. -/
theorem matchFrame_cases (s : State) (x : RxFrame) : (s.matchFrame x).1 = s
    ∨ ∃ l, (s.matchFrame x).1 = s.addMatches l ∨ ∃ r, (s.matchFrame x).1 = (s.addMatches l).offerRecord r := by
  unfold State.matchFrame
  dsimp only
  split
  · exact .inl rfl
  · refine .inr ⟨s.matchingSet x.kind x.topic, ?_⟩
    dsimp only
    split
    · exact .inr ⟨_, rfl⟩
    · exact .inl rfl

/-- Matching works on the Receive Queue, the match set, the overrun count and the flags. -/
theorem matchFrame_frame (s : State) (x : RxFrame) : (s.matchFrame x).1 = { s with
    au := (s.matchFrame x).1.au, rq := (s.matchFrame x).1.rq, eu := (s.matchFrame x).1.eu
    lc := { s.lc with stats := (s.matchFrame x).1.lc.stats } } := by
  have offered (t : State) (r : RxRecord) : t.offerRecord r = { t with
      rq := (t.offerRecord r).rq, eu := (t.offerRecord r).eu
      lc := { t.lc with stats := (t.offerRecord r).lc.stats } } := by
    unfold State.offerRecord
    split <;> rfl
  rcases matchFrame_cases s x with h | ⟨l, h | ⟨r, h⟩⟩ <;> rw [h]
  · rfl
  · rw [offered]
    rfl

end Sys2Proof.Machine
end

section
/-! SUPPORT. What a firing and the events of one instant do to the Link Controller, and with it: nothing of the line
waits after `settleDue`, and a station on the line stays there. -/

namespace Sys2Proof.Machine

/-! ## A firing at the Link Controller -/

theorem noteRefusal_lc (s : State) (r : Fin 24) (x : ActionResult) : (s.noteRefusal r x).lc = s.lc := by
  cases x <;> rfl

theorem fire_lc (s : State) (r : Fin 24) : (s.fire r).state.lc = (s.perform r).state.lc :=
  noteRefusal_lc _ r _

theorem actTimerStart_frame (s : State) (t : Fin 4) (parameter : BitVec 16) :
    ∃ x, s.actTimerStart t parameter = s.setTimer t x := by
  unfold State.actTimerStart State.startTimer
  split
  · exact ⟨_, rfl⟩
  · exact ⟨_, State.setTimer_setTimer s t _ _⟩

theorem stopTrain_frame (s : State) (g : Fin 2) : (s.stopTrain g).1 = s ∨ ∃ x, (s.stopTrain g).1 = s.setTrain g x := by
  unfold State.stopTrain
  dsimp only
  split
  · split <;> exact .inr ⟨_, rfl⟩
  · exact .inl rfl

theorem newRequest_lc {s t : State} {i : Fin 8} (h : s.newRequest i = some t) :
    t.lc = { s.lc with choice := t.lc.choice } := by
  unfold State.newRequest at h
  split at h
  · cases h
    exact State.arbiter_lc _
  · split at h <;> cases h
    exact State.arbiter_lc _

theorem requestSlot_lc (s : State) (i : Fin 8) :
    (s.requestSlot i).1.lc = { s.lc with choice := (s.requestSlot i).1.lc.choice } := by
  unfold State.requestSlot
  split
  iterate 3 rfl
  all_goals
    split
    next hu => exact newRequest_lc hu
    · rfl

/-- An action moves the choice at most, or in ACTIVE starts a pulse (R146). -/
theorem Acts.link {s t : State} {r : Fin 24} (h : Acts s r t) : (∃ c, t.lc = { s.lc with choice := c })
    ∨ (s.lc.state = .active ∧ ∃ p c, t.lc = { s.lc with
        pulse := s.pulseLength p, due := s.lc.due.filter (· != .pulseEnds), choice := c }) := by
  cases h with
  | send i hs ho => exact .inl ⟨_, requestSlot_lc s i⟩
  | timerStart t parameter =>
    obtain ⟨x, hx⟩ := actTimerStart_frame s t parameter
    exact .inl ⟨_, by rw [hx]; rfl⟩
  | trainStop g =>
    rcases stopTrain_frame s g with e | ⟨x, e⟩ <;> rw [e] <;> exact .inl ⟨_, rfl⟩
  | arm q => rcases s.armReaction_eq q with e | ⟨x, e⟩ <;> rw [e] <;> exact .inl ⟨_, rfl⟩
  | disarm q => rcases s.disarmReaction_eq q with e | ⟨x, e⟩ <;> rw [e] <;> exact .inl ⟨_, rfl⟩
  | finish o status ho => exact .inl ⟨_, State.arbiter_lc _⟩
  | holdPulse parameter hs => exact .inr ⟨hs, parameter, _, State.arbiter_lc _⟩
  | _ => exact .inl ⟨_, rfl⟩

/-! ## Properties of the Link Controller alone -/

theorem statsInv_countStat {s : State} (c : Stat) (h : s.lc.StatsInv) : (s.countStat c).lc.StatsInv :=
  ((OwnersFrame.refl s).countStat c).counted h

/-- A record lost at a full queue is counted, and the count saturates (R78). -/
theorem statsInv_matchFrame {s : State} (x : RxFrame) (h : s.lc.StatsInv) : (s.matchFrame x).1.lc.StatsInv := by
  unfold State.matchFrame
  dsimp only
  split
  · exact h
  · split
    · unfold State.offerRecord
      split
      · exact h
      · exact statsInv_countStat (s := s.addMatches _) .overruns h
    · exact h

/-- A property of the Link Controller that a choice, a counted statistic and a pulse started by an action keep. -/
structure LinkPred (P : State → Prop) : Prop where
  congr : ∀ s t : State, P s → t.lc = s.lc → P t
  moves : ∀ s c x, (s.lc.StatsInv → ∀ d : Stat, x[d.ix] ≤ 255) → P s →
    P (State.setLc s { s.lc with choice := c, stats := x })
  pulse : ∀ s p, s.lc.state = .active → P s →
    P (s.setLc { s.lc with pulse := s.pulseLength p, due := s.lc.due.filter (· != .pulseEnds) })

namespace LinkPred

variable {P : State → Prop} (L : LinkPred P)
include L

theorem setChoice {s t : State} {c : Option Choice} (h : t.lc = { s.lc with choice := c }) (hs : P s) : P t :=
  L.congr (s.setLc { s.lc with choice := c, stats := s.lc.stats }) t (L.moves s c _ id hs) h

theorem owners {s t : State} (h : OwnersFrame s t) (hs : P s) : P t :=
  L.congr (s.setLc { s.lc with choice := t.lc.choice, stats := t.lc.stats }) t (L.moves s _ _ h.counted hs) h.link

theorem arbiter {s : State} (hs : P s) : P s.arbiter := L.setChoice s.arbiter_lc hs

theorem fire (s : State) (r : Fin 24) (hs : P s) : P (s.fire r).state := by
  refine L.congr _ _ ?_ (fire_lc s r)
  rcases (acts_perform s r).link with ⟨c, h⟩ | ⟨ha, p, c, h⟩
  · exact L.setChoice h hs
  · exact L.setChoice (s := s.setLc { s.lc with
      pulse := s.pulseLength p, due := s.lc.due.filter (· != .pulseEnds) }) h (L.pulse s p ha hs)

theorem countEdge (s : State) (c : Fin 2) (k : Fin 8) (e : Edge) (hs : P s) : P (s.countEdge c k e).1 := by
  unfold State.countEdge
  dsimp only
  split
  · exact L.congr _ _ hs rfl
  · exact hs

theorem matchFrame (s : State) (x : RxFrame) (hs : P s) : P (s.matchFrame x).1 := by
  refine L.congr (s.setLc { s.lc with choice := s.lc.choice, stats := (s.matchFrame x).1.lc.stats }) _
    (L.moves s _ _ (statsInv_matchFrame x) hs) ?_
  conv_lhs => rw [matchFrame_frame]
  rfl

theorem tasksKept : TasksKept P where
  free _ _ h := L.congr _ _ h rfl
  fire s r _ _ h := L.fire s r h
  suppress _ _ _ _ h := L.congr _ _ h rfl
  matchFrame := L.matchFrame
  openObligation s h := L.owners (OwnersFrame.refl s).openObligation h
  doneArrival s x h := L.owners ((OwnersFrame.refl s).doneArrival x) h
  withdrawArrival s x h := L.owners ((OwnersFrame.refl s).withdrawArrival x) h
  choose _ h := L.arbiter h
  count := L.countEdge

theorem settleTasks {s : State} (series : List (List Task)) (h : P s) : P (s.settleTasks series) :=
  L.tasksKept.settleTasks s series h

theorem edgeInput (s : State) (k : Fin 8) (h : P s) : P (s.edgeInput k) := by
  unfold State.edgeInput
  dsimp only
  split
  · exact L.settleTasks _ (L.congr _ _ h rfl)
  · exact h

theorem expireTimer (s : State) (t : Fin 4) (h : P s) : P (s.expireTimer t) := by
  unfold State.expireTimer
  split
  · exact L.settleTasks _ (L.congr _ _ h rfl)
  · exact h

theorem leadTrain (s : State) (g : Fin 2) (h : P s) : P (s.leadTrain g) := by
  unfold State.leadTrain
  dsimp only
  split
  · exact L.settleTasks _ (L.congr _ _ h rfl)
  · exact h

theorem trailTrain (s : State) (g : Fin 2) (h : P s) : P (s.trailTrain g) := by
  unfold State.trailTrain
  dsimp only
  split
  · split
    · exact L.settleTasks _ (L.congr _ _ h rfl)
    · exact L.congr _ _ h rfl
  · exact h

theorem expireCall (s : State) (k : Fin 8) (h : P s) : P (s.expireCall k) := by
  unfold State.expireCall
  dsimp only
  split
  · exact L.settleTasks _ (L.owners (((OwnersFrame.refl s).setCall k _).settleCall k _) h)
  · exact h

theorem drainTime {s : State} (h : P s) : P s.drainTime :=
  drainTime_keeps s L.edgeInput L.expireTimer L.leadTrain L.trailTrain L.expireCall h

theorem driveSof {s : State} (c : Candidate) (h : P (s.setLc { s.lc with
    choice := none, inFlight := some c, phase := .frame
    frame := some (Frame.start .transmitter .sof (s.candidateBits c)) })) : P (s.driveSof c) := by
  refine L.congr _ _ h ?_
  cases c <;> rfl

end LinkPred

/-! ## Events of the line -/

theorem ripen_due (s : State) : s.ripen.lc.due = s.lc.due := rfl

theorem afterAttempt_due_le (s : State) (c : TxCode) :
    (s.afterAttempt c).lc.due.length ≤ s.lc.due.length := by
  cases c
  case ok | lost | hold => exact Nat.le_refl _
  all_goals
    unfold State.afterAttempt
    dsimp only
    split
    · exact Nat.le_refl _
    · exact List.length_filter_le _ _

theorem settleReceive_due (s : State) (c : RxCode) : (s.settleReceive c).lc.due = s.lc.due :=
  ((OwnersFrame.refl s).countReceive c).breakVerdict.due

theorem reachEod_due (s : State) : s.reachEod.lc.due = s.lc.due := by
  unfold State.reachEod
  split
  · rfl
  · split
    · split
      · rfl
      · exact ((OwnersFrame.refl s).takeVerdict _ _ _).due
    · rfl

/-- Carrying out an event makes no other one wait. -/
theorem carryOut_due_le (s : State) (e : LineEvent) : (s.carryOut e).lc.due.length ≤ s.lc.due.length := by
  have L (n : Nat) : LinkPred fun t => t.lc.due.length ≤ n :=
    { congr := fun _ _ hs h => by rw [h]; exact hs
      moves := fun _ _ _ _ hs => hs
      pulse := fun _ _ _ hs => (List.length_filter_le _ _).trans hs }
  have hand (c : TxCode) (l : List Byte) : (s.handInFlight c l).1.lc.due = s.lc.due :=
    (ownersFrame_handInFlight s c l).due
  have settle (n : Nat) (t : State) (series : List (List Task)) (h : t.lc.due.length ≤ n) :
      (t.settleTasks series).lc.due.length ≤ n := (L n).settleTasks series h
  cases e with
  | attemptSettled c =>
    refine settle _ _ _ ((afterAttempt_due_le _ c).trans (Nat.le_of_eq ?_))
    rw [((OwnersFrame.refl _).countAttempt c).due, hand]
  | receiveError c =>
    refine Nat.le_of_eq ?_
    rw [State.carryOut, settleReceive_due]
  | frameEnd =>
    simp only [State.carryOut, State.endFrame]
    split
    · exact Nat.le_refl _
    · exact settle _ _ _ (Nat.le_refl _)
  | eodPoint => exact Nat.le_of_eq (congrArg List.length (reachEod_due s))
  | crowded =>
    refine Nat.le_of_eq (congrArg List.length ?_)
    exact (((OwnersFrame.refl s).releaseVerdict.countStat .crowded).setFlag .oblNote (by decide)).due
  | holdDetected =>
    refine settle _ _ _ (Nat.le_of_eq (congrArg List.length ?_))
    exact (OwnersFrame.refl _).breakVerdict.due.trans (hand .hold [])
  | persistenceMark => exact settle _ _ _ (Nat.le_refl _)
  | holdEnded => exact settle _ _ _ (Nat.le_refl _)
  | recoveryGap => exact Nat.le_of_eq (congrArg List.length (State.arbiter_due _))
  | integration => exact Nat.le_of_eq (congrArg List.length (State.arbiter_due _))
  | pulseEnds => exact Nat.le_of_eq (congrArg List.length (State.arbiter_due _))
  | quietEnds => exact List.length_filter_le _ _
  | peerSof => exact Nat.le_refl _
  | placed => exact Nat.le_refl _

/-- Each row of the drain makes one event fewer wait. -/
theorem drainLine_due (n : Nat) (s : State) (h : s.lc.due.length ≤ n) : (drainLine n s).lc.due = [] := by
  induction n generalizing s with
  | zero => exact List.length_eq_zero_iff.mp (Nat.le_zero.mp h)
  | succ n ih =>
    refine ih _ ?_
    cases hd : s.lc.due with
    | nil => simp [State.carryFirst, hd]
    | cons e rest =>
      have hr : (s.setLc { s.lc with due := rest }).lc.due.length ≤ n := by
        rw [hd] at h
        exact Nat.le_of_succ_le_succ h
      simp only [State.carryFirst, hd, List.find?_cons_of_pos, List.erase_cons_head]
      split
      · exact (carryOut_due_le _ e).trans hr
      · exact hr

/-- Once all that waits is carried out, nothing of the line waits. -/
theorem settleDue_due (s : State) : s.settleDue.lc.due = [] := by
  have L : LinkPred fun t => t.lc.due = [] :=
    { congr := fun _ _ hs h => by rw [h]; exact hs
      moves := fun _ _ _ _ hs => hs
      pulse := fun s p _ hs => by simp [hs] }
  unfold State.settleDue
  exact L.drainTime (drainLine_due _ s (Nat.le_refl _))

end Sys2Proof.Machine
end

section
/-! SUPPORT. Every command answers a next state, and what the parts of the rows keep, it keeps. -/

namespace Sys2Proof.Machine

/-! ## A station on the line stays there while it carries out what waits -/

/-- The station is on the line, or was put on it by a row: no event of the line takes it off. -/
theorem linkPred_onLine : LinkPred fun s => s.lc.phase ≠ .out where
  congr _ _ hs h := by rw [h]; exact hs
  moves _ _ _ _ hs := hs
  pulse _ _ _ hs := hs

theorem afterAttempt_onLine {s : State} (c : TxCode) (h : s.lc.phase ≠ .out) :
    (s.afterAttempt c).lc.phase ≠ .out := by
  cases c
  case lost | hold => exact h
  case ok => exact BusPhase.noConfusion
  all_goals
    unfold State.afterAttempt
    dsimp only
    split <;> exact BusPhase.noConfusion

theorem reachEod_phase (s : State) : s.reachEod.lc.phase = s.lc.phase := by
  unfold State.reachEod
  split
  · rfl
  · split
    · split
      · rfl
      · exact ((OwnersFrame.refl s).takeVerdict _ _ _).phase
    · rfl

theorem carryOut_onLine {s : State} (e : LineEvent) (h : s.lc.phase ≠ .out) :
    (s.carryOut e).lc.phase ≠ .out := by
  have L := linkPred_onLine
  cases e with
  | attemptSettled c =>
    refine L.settleTasks _ (afterAttempt_onLine c ?_)
    exact L.owners (((OwnersFrame.refl _).countAttempt c)) (L.owners (ownersFrame_handInFlight s c _) h)
  | receiveError c => exact BusPhase.noConfusion
  | peerSof => exact BusPhase.noConfusion
  | eodPoint => exact (reachEod_phase s).trans_ne h
  | placed => exact h
  | crowded =>
    exact L.owners (((OwnersFrame.refl s).releaseVerdict.countStat .crowded).setFlag .oblNote (by decide)) h
  | frameEnd =>
    simp only [State.carryOut, State.endFrame]
    split
    · exact h
    · exact L.settleTasks _ BusPhase.noConfusion
  | recoveryGap => exact L.arbiter BusPhase.noConfusion
  | integration => exact L.arbiter BusPhase.noConfusion
  | holdDetected => exact L.settleTasks _ BusPhase.noConfusion
  | persistenceMark => exact L.settleTasks _ h
  | holdEnded =>
    refine L.settleTasks _ ?_
    show (if s.lc.holdInAwait then BusPhase.await else .idle) ≠ .out
    split <;> exact BusPhase.noConfusion
  | pulseEnds => exact L.arbiter h
  | quietEnds =>
    show (if s.lc.phase = .hold then BusPhase.hold else .await) ≠ .out
    split <;> exact BusPhase.noConfusion

theorem settleDue_onLine {s : State} (h : s.lc.phase ≠ .out) : s.settleDue.lc.phase ≠ .out := by
  have L := linkPred_onLine
  unfold State.settleDue
  exact L.drainTime (drainLine_keeps (P := fun t => t.lc.phase ≠ .out) _ s (fun _ _ ht => ht) (fun _ e _ ht => carryOut_onLine e ht) h)

theorem driveSof_frame (s : State) (c : Candidate) : s.driveSof c = { s with
    outbox := (s.driveSof c).outbox
    lc := { s.lc with
      choice := none, inFlight := some c, phase := .frame
      frame := some (Frame.start .transmitter .sof (s.candidateBits c)) } } := by
  cases c <;> rfl

theorem driveDueSof_cases (s : State) :
    s.driveDueSof = s ∨ ∃ c, s.sofReady = some c ∧ s.driveDueSof = s.driveSof c := by
  unfold State.driveDueSof
  split
  next h => exact .inr ⟨_, h, rfl⟩
  · exact .inl rfl

theorem inBitTime_onLine {s : State} (h : s.lc.phase ≠ .out) : s.inBitTime.lc.phase ≠ .out := by
  unfold State.inBitTime
  rcases driveDueSof_cases s.settleDue with e | ⟨c, -, e⟩ <;> rw [e]
  · exact settleDue_onLine h
  · rw [driveSof_frame]
    exact BusPhase.noConfusion

theorem driveDueSof_due (s : State) : s.driveDueSof.lc.due = s.lc.due := by
  rcases driveDueSof_cases s with e | ⟨c, -, e⟩ <;> rw [e]
  rw [driveSof_frame]

theorem inBitTime_due (s : State) : s.inBitTime.lc.due = [] := by
  rw [State.inBitTime, driveDueSof_due, settleDue_due]

/-! ## Commands -/

namespace RowsKept

variable {P : State → Prop} (K : RowsKept P)
include K

theorem hostRow (c : Instr) (s : State) (hc : (encodeCommand c).isSome = true) (h : P s) :
    ∃ t, exec c s = .next t ∧ P t := ⟨_, exec_eq_hostCommand hc s, K.command c s h⟩

theorem portRow {a : Answered} {s t : State} (ha : a = .next t) (hp : PortStep s t) (h : P s) :
    ∃ t, a = .next t ∧ P t := ⟨t, ha, K.port s t hp h⟩

theorem unknownCommand (code : Byte) (s : State) (h : P s) : ∃ t, execUnknownCommand code s = .next t ∧ P t := by
  unfold execUnknownCommand
  split
  · split
    · exact ⟨s, rfl, h⟩
    next hr => exact ⟨_, rfl, K.port _ _ (.unknown code hr) h⟩
  · exact ⟨s, rfl, h⟩

/-- Bytes that name a command take its row; bytes that name none take nothing. -/
theorem takeBytes (bytes : List Byte) (s : State) (h : P s) : ∃ t, takeBytes bytes s = .next t ∧ P t := by
  unfold Machine.takeBytes
  split
  next c _ =>
    by_cases hc : (encodeCommand c).isSome = true
    · rw [execHostCommand_eq c s hc]
      exact K.hostRow c s hc h
    · refine ⟨s, ?_, h⟩
      cases c <;> first | exact absurd rfl hc | rfl
  · exact ⟨s, rfl, h⟩

theorem byteCompletes (b : Byte) (s : State) (h : P s) : ∃ t, execByteCompletes b s = .next t ∧ P t := by
  unfold execByteCompletes
  split
  iterate 2 exact ⟨s, rfl, h⟩
  next hp =>
    unfold commandByte
    split
    next n hn => exact ⟨_, rfl, K.port _ _ (.gather b n hp hn) h⟩
    · exact K.takeBytes _ s h
    · exact K.unknownCommand b s h
  next got hp =>
    unfold parameterByte
    split
    next n hn =>
      split
      next hlt => exact ⟨_, rfl, K.port _ _ (.more got b n hp hn hlt) h⟩
      · exact K.takeBytes _ s h
    · exact ⟨s, rfl, h⟩
  next left hp => exact ⟨_, rfl, K.port _ _ (.shift left hp) h⟩
  next hp => exact ⟨_, rfl, K.port _ _ (.trail hp) h⟩

theorem samplePoint (level : Level) (s : State) (h : P s) : ∃ t, execSamplePoint level s = .next t ∧ P t := by
  by_cases ho : s.lc.phase = .out
  · exact ⟨s, by simp [execSamplePoint, ho], h⟩
  · exact ⟨_, execSamplePoint_of_ne_out s level ho,
      K.readBit _ level (inBitTime_onLine ho) (inBitTime_due s) (K.inBitTime s h)⟩

/-- Every command answers a next state, and keeps what the parts of its row keep. -/
theorem exec (c : Instr) (s : State) (h : P s) : ∃ t, exec c s = .next t ∧ P t := by
  by_cases hc : (encodeCommand c).isSome = true
  · exact K.hostRow c s hc h
  have line (p : LineEvent → Bool) : ∃ t, Host.Outcome.next (φ := Fault) (ρ := Refusal) (s.carryFirst p) = .next t
      ∧ P t := ⟨_, rfl, K.carryFirst s p h⟩
  cases c with
  | deviceReset held hcsLow => exact ⟨_, rfl, K.port _ _ (.reset held hcsLow) h⟩
  | hcsFall => exact ⟨_, rfl, K.port _ _ .fall h⟩
  | hcsRise clocked =>
    show ∃ t, execHcsRise clocked s = .next t ∧ P t
    unfold execHcsRise
    split
    iterate 2 exact ⟨s, rfl, h⟩
    all_goals exact ⟨_, rfl, K.port _ _ (.rise clocked (by simp [*]) (by simp [*])) h⟩
  | unknownCommand code => exact K.unknownCommand code s h
  | sofDriven =>
    show ∃ t, execSofDriven s = .next t ∧ P t
    unfold execSofDriven
    split
    next hr => exact ⟨_, rfl, K.sof _ _ hr h⟩
    · exact ⟨s, rfl, h⟩
  | timeStep inputs => exact ⟨_, rfl, K.tick _ inputs (K.settleDue s h)⟩
  | deadlineExpiry entry => exact ⟨_, rfl, K.call s entry h⟩
  | timerExpire timer => exact ⟨_, rfl, K.timer s timer h⟩
  | leadingEdge train => exact ⟨_, rfl, K.lead s train h⟩
  | trailingEdge train => exact ⟨_, rfl, K.trail s train h⟩
  | inputEdge line => exact ⟨_, rfl, K.edge s line h⟩
  | samplePoint level => exact K.samplePoint level s h
  | byteCompletes byte => exact K.byteCompletes byte s h
  | peerSof | eodPoint | placed | crowded | frameEnd | receiveError | attemptSettled | recoveryGapCompletes
  | integrationCompletes | quietPeriodEnds | holdDetected | persistenceMark | holdEnded | pulseEnds =>
    exact line _
  | _ => exact absurd rfl hc

/-- Every step keeps what the parts of its row keep, and what does not rest on the queue. -/
theorem step (pending : ∀ s l, P s → P { s with pending := l }) {s t : State} (h : P s)
    (hs : step s = .next t) : P t := by
  unfold Machine.step at hs
  split at hs
  · cases hs
    exact h
  next c rest _ =>
    obtain ⟨u, hu, hP⟩ := K.exec c _ (pending s rest h)
    rw [hu] at hs
    cases hs
    exact hP

end RowsKept

/-! ## Host commands of which only the taking matters -/

/-- What the port, the taking and the events handed on keep, a host command keeps. -/
theorem command_keeps {P : State → Prop} (T : TasksKept P) (port : ∀ s t, PortStep s t → P s → P t)
    (hp : ∀ s x, P s → P { s with hp := x }) (took : ∀ s t, Took s t → P s → P t) (c : Instr) (s : State)
    (h : P s) : P (s.hostCommand c (takenBy c)) := by
  by_cases hr : s.hp.phase = .inReset
  · rw [hostCommand_of_inReset s c _ hr]
    exact h
  refine hostCommand_keeps (P := fun t => P t) s c _ (fun hs => ?_) (fun t ht => took t _ (took_takenBy c t) ht)
    (fun t st data ht => hp t _ ht) (fun t series ht => T.settleTasks t series ht) h
  refine port _ _ .fall ?_
  by_cases hd : s.hp.phase = .deselected
  · unfold State.riseHcs
    dsimp only
    split
    · exact hp _ _ (port _ _ (.reset false false) hs)
    · exact hp _ _ hs
  · exact port _ _ (.rise true hd hr) hs

end Sys2Proof.Machine
end

section
/-! SUPPORT. Line events at what is not the owners' and not the Link Controller's, and the commands that wait. -/

namespace Sys2Proof.Machine

/-- What the events of one instant, the owners and any change of the Link Controller keep, a line event keeps. -/
theorem carryOut_keeps {P : State → Prop} (T : TasksKept P) (owners : ∀ s t, OwnersFrame s t → P s → P t)
    (link : ∀ s x, P s → P (State.setLc s x)) (s : State) (e : LineEvent) (h : P s) : P (s.carryOut e) := by
  have hand (c : TxCode) (l : List Byte) : P (s.handInFlight c l).1 :=
    owners _ _ (ownersFrame_handInFlight s c l) (link _ _ h)
  have flag {t : State} (f : Flag) (hf : f ≠ .rxReady) (ht : P t) : P (t.setFlag f) :=
    owners _ _ ((OwnersFrame.refl t).setFlag f hf) ht
  cases e with
  | attemptSettled c =>
    refine link _ _ (T.settleTasks _ _ ?_)
    have counted := owners _ _ ((OwnersFrame.refl _).countAttempt c) (hand c s.responseList)
    cases c
    case lost | hold => exact counted
    case ok => exact link _ _ counted
    all_goals
      unfold State.afterAttempt
      dsimp only
      split
      · exact link _ _ (link _ _ counted)
      · exact flag .linkNote (by decide) (link _ _ (link _ _ counted))
  | receiveError c => exact link _ _ (owners _ _ ((OwnersFrame.refl s).countReceive c).breakVerdict h)
  | peerSof => exact link _ _ h
  | eodPoint =>
    simp only [State.carryOut, State.reachEod]
    split
    · exact h
    · split
      · split
        · exact h
        · exact link _ _ (owners _ _ (((OwnersFrame.refl s).takeVerdict _ _ _).setVerdict _) h)
      · exact h
  | placed => exact owners _ _ ((OwnersFrame.refl s).setVerdict _) h
  | crowded =>
    exact owners _ _ (((OwnersFrame.refl s).releaseVerdict.countStat .crowded).setFlag .oblNote (by decide)) h
  | frameEnd =>
    simp only [State.carryOut, State.endFrame]
    split
    · exact h
    · exact link _ _ (T.settleTasks _ _ (link _ _ h))
  | recoveryGap => exact link _ _ (T.choose _ (link _ _ h))
  | integration => exact link _ _ (T.choose _ (flag .linkNote (by decide) (link _ _ h)))
  | holdDetected =>
    exact T.settleTasks _ _ (flag .holdNote (by decide) (link _ _ (owners _ _ (OwnersFrame.refl _).breakVerdict
      (hand .hold []))))
  | persistenceMark =>
    simp only [State.carryOut, State.markPersistence]
    exact T.settleTasks _ _ (flag .holdNote (by decide) h)
  | holdEnded => exact link _ _ (T.settleTasks _ _ (flag .holdNote (by decide) (link _ _ h)))
  | pulseEnds => exact link _ _ (T.choose _ (link _ _ h))
  | quietEnds => exact flag .linkNote (by decide) (link _ _ h)

/-! ## Events of a time step at what is not the Timing Unit's and the Line Unit's -/

section
variable {P : State → Prop} (T : TasksKept P)
include T

theorem edgeInput_keeps (lu : ∀ s x, P s → P { s with lu := x }) (s : State) (k : Fin 8) (h : P s) :
    P (s.edgeInput k) := by
  unfold State.edgeInput
  dsimp only
  split
  · exact T.settleTasks _ _ (lu _ _ h)
  · exact h

theorem expireTimer_keeps (tu : ∀ s x, P s → P { s with tu := x }) (s : State) (t : Fin 4) (h : P s) :
    P (s.expireTimer t) := by
  unfold State.expireTimer
  split
  · exact T.settleTasks _ _ (tu _ _ h)
  · exact h

theorem leadTrain_keeps (tu : ∀ s x, P s → P { s with tu := x }) (lu : ∀ s x, P s → P { s with lu := x })
    (s : State) (g : Fin 2) (h : P s) : P (s.leadTrain g) := by
  unfold State.leadTrain
  dsimp only
  split
  · exact T.settleTasks _ _ (lu _ _ (tu _ _ h))
  · exact h

theorem trailTrain_keeps (tu : ∀ s x, P s → P { s with tu := x }) (lu : ∀ s x, P s → P { s with lu := x })
    (s : State) (g : Fin 2) (h : P s) : P (s.trailTrain g) := by
  unfold State.trailTrain
  dsimp only
  split
  · split
    · exact T.settleTasks _ _ (lu _ _ (tu _ _ h))
    · exact lu _ _ (tu _ _ h)
  · exact h

theorem expireCall_keeps (settle : ∀ s k, (State.call s k).state = .opened → P s →
      P ((s.setCall k { s.call k with remaining := 0, fraction := 0 }).settleCall k .expired))
    (s : State) (k : Fin 8) (h : P s) : P (s.expireCall k) := by
  unfold State.expireCall
  dsimp only
  split
  next hk => exact T.settleTasks _ _ (settle s k hk.2 h)
  · exact h

end

/-! ## Takings at what is not the owners' -/

/-- What a loaded entry replaces. -/
theorem loadEntry_frame {s t : State} {kind index : Byte} {f : Vector Byte 11}
    (h : s.loadEntry kind index f = some t) : t = { s with
      image := t.image, au := t.au, re := { s.re with defs := t.re.defs } } := by
  unfold State.loadEntry at h
  split at h
  iterate 8
    · obtain ⟨x, -, rfl⟩ := Option.map_eq_some_iff.mp h
      rfl
  · cases h

/-- The application of the image works on the Line Unit, the Timing Unit and the Reaction Engine (R190). -/
theorem applyImage_frame (s : State) : s.applyImage = { s with
    lu := s.applyLines.lu, tu := s.applyTiming.tu, re := s.applyReactions.re } := by
  unfold State.applyImage State.applyReactions State.applyTiming State.applyLines
  rfl

/-- OUTPUT WRITE changes the output lines alone. -/
theorem writeOutputs_frame (s : State) (lines levels : Byte) : s.writeOutputs lines levels
    = { s with lu := { s.lu with outputs := (s.writeOutputs lines levels).lu.outputs } } :=
  foldl_keeps (P := fun t => t = { s with lu := { s.lu with outputs := t.lu.outputs } }) _
    (fun t k ht => by
      dsimp only
      split
      · rw [ht]; rfl
      · exact ht) _ _ rfl

/-- LEAVE works on the Link Controller, then on the slots, the calls and the obligations. -/
theorem takeLeave_of_joined {s : State} (hs : s.lc.state ≠ .config) (ho : s.lc.state ≠ .offline) :
    takeLeave s =
      let slots := (List.finRange 8).foldl leaveSlot (s.setLc s.lc.left, [])
      let calls := (List.finRange 8).foldl leaveCall (slots.1, [])
      .ok (((List.finRange 8).foldl leaveObl calls.1).setVerdict none) []
        (inSeries slots.2 ++ inSeries calls.2) := by
  unfold takeLeave
  split
  · exact absurd ‹_› hs
  · exact absurd ‹_› ho
  all_goals rfl

/-- The owners at LEAVE. -/
theorem ownersFrame_takeLeave {s : State} (hs : s.lc.state ≠ .config) (ho : s.lc.state ≠ .offline) :
    OwnersFrame (s.setLc s.lc.left) (takeLeave s).state := by
  have slots (p : State × List Occurrence) (i : Fin 8) : OwnersFrame p.1 (leaveSlot p i).1 := by
    unfold leaveSlot
    dsimp only
    split
    iterate 2 exact ((OwnersFrame.refl _).setSlot _ _).arriveDone _ _ _
    all_goals exact OwnersFrame.refl _
  have calls (p : State × List Occurrence) (k : Fin 8) : OwnersFrame p.1 (leaveCall p k).1 := by
    unfold leaveCall
    split
    iterate 2 exact (OwnersFrame.refl _).settleCall _ _
    all_goals exact OwnersFrame.refl _
  have obls (t : State) (o : Fin 8) : OwnersFrame t (leaveObl t o) := by
    unfold leaveObl
    split
    · exact OwnersFrame.refl _
    · exact ((OwnersFrame.refl _).setObl _ _).noteOblChanged _
  have fold {α : Type} (f : State × List Occurrence → α → State × List Occurrence)
      (hf : ∀ p a, OwnersFrame p.1 (f p a).1) (l : List α) (p : State × List Occurrence) :
      OwnersFrame p.1 (l.foldl f p).1 := by
    induction l generalizing p with
    | nil => exact OwnersFrame.refl _
    | cons a l ih => exact (hf p a).trans (ih _)
  have foldObl (l : List (Fin 8)) (t : State) : OwnersFrame t (l.foldl leaveObl t) := by
    induction l generalizing t with
    | nil => exact OwnersFrame.refl _
    | cons o l ih => exact (obls t o).trans (ih _)
  have all (l : List (Fin 8)) : OwnersFrame (s.setLc s.lc.left) ((l.foldl leaveObl (l.foldl leaveCall
      ((l.foldl leaveSlot (s.setLc s.lc.left, [])).1, [])).1).setVerdict none) :=
    (((fold leaveSlot slots l (s.setLc s.lc.left, [])).trans (fold leaveCall calls l (_, []))).trans
      (foldObl l _)).setVerdict none
  rw [takeLeave_of_joined hs ho]
  exact all _

/-! ## The commands that wait -/

theorem tasksKept_pending (l : List Instr) : TasksKept fun s => s.pending = l where
  free _ _ h := h
  fire s r _ _ h := (same_fire s r).ports.2.2.trans h
  suppress _ _ _ _ h := h
  matchFrame s x h := by rw [matchFrame_frame]; exact h
  openObligation s h := (OwnersFrame.refl s).openObligation.pending.trans h
  doneArrival s x h := ((OwnersFrame.refl s).doneArrival x).pending.trans h
  withdrawArrival s x h := ((OwnersFrame.refl s).withdrawArrival x).pending.trans h
  choose s h := s.arbiter_pending.trans h
  count s c k e h := by
    unfold State.countEdge
    dsimp only
    split <;> exact h

/-- No taking touches the commands that wait. -/
theorem Took.pending {s t : State} (h : Took s t) : t.pending = s.pending := by
  cases h with
  | leave hs ho => exact (ownersFrame_takeLeave hs ho).pending
  | holdAssert => exact State.arbiter_pending _
  | holdRelease => exact State.arbiter_pending _
  | load kind index f _ hs ht => rw [loadEntry_frame ht]
  | slotRequest i => exact ((OwnersFrame.refl s).requestSlot i).pending
  | abortPending i => exact ((OwnersFrame.refl s).arriveDone i _ _).arbiter.pending
  | rxRelease r rest => split <;> rfl
  | callWithdraw k => exact State.arbiter_pending _
  | oblFinish o => exact State.arbiter_pending _
  | oblDiscard o => exact State.arbiter_pending _
  | arm r =>
    rcases s.armReaction_eq r with e | ⟨x, e⟩ <;> rw [e]
    rfl
  | disarm r =>
    rcases s.disarmReaction_eq r with e | ⟨x, e⟩ <;> rw [e]
    rfl
  | force r hs ha => exact (tasksKept_pending s.pending).force s r hs ha rfl
  | trainStop g =>
    rcases stopTrain_frame s g with e | ⟨x, e⟩ <;> rw [e]
    rfl
  | outputWrite lines levels => rw [writeOutputs_frame]
  | joinConfig => rw [applyImage_frame]
  | _ => rfl

theorem PortStep.pending {s t : State} (h : PortStep s t) : t.pending = s.pending := by
  rcases h.hp_or_reset with ⟨x, rfl⟩ | ⟨held, hcsLow, x, rfl⟩ <;> rfl

theorem rowsKept_pending (l : List Instr) : RowsKept fun s => s.pending = l := by
  have T := tasksKept_pending l
  exact
    { port := fun s t ht h => ht.pending.trans h
      command := command_keeps T (fun s t ht h => ht.pending.trans h) (fun _ _ h => h)
        (fun s t ht h => ht.pending.trans h)
      stale := fun _ _ _ _ h => h
      carry := fun s e _ _ h => carryOut_keeps T (fun _ _ hf h => hf.pending.trans h) (fun _ _ h => h) _ e h
      sof := fun s c _ h => by rw [driveSof_frame]; exact h
      edge := edgeInput_keeps T fun _ _ h => h
      timer := expireTimer_keeps T fun _ _ h => h
      lead := leadTrain_keeps T (fun _ _ h => h) fun _ _ h => h
      trail := trailTrain_keeps T (fun _ _ h => h) fun _ _ h => h
      call := expireCall_keeps T fun s k _ h => (((OwnersFrame.refl s).setCall k _).settleCall k _).pending.trans h
      tick := fun _ _ h => h
      readBit := fun s level _ _ h => by
        unfold State.readBit State.ripenIdle
        split <;> exact h }

/-- Settles O2: every part of a row leaves the commands that wait as they are. -/
theorem everyCommandAnswersNext : Obligations.EveryCommandAnswersNext :=
  fun c s => (rowsKept_pending s.pending).exec c s rfl

end Sys2Proof.Machine
end

section
/-! SUPPORT. The Receive Queue with its flag (R77, R81), and the Host Port with its transaction (R193 to R197). -/

namespace Sys2Proof.Machine

/-! ## The Receive Queue -/

theorem queueInv_congr {s t : State} (h : s.QueueInv) (hq : t.rq = s.rq)
    (hf : t.flag .rxReady = s.flag .rxReady) : t.QueueInv where
  capacity := by rw [hq]; exact h.capacity
  ready_iff := by rw [hq, hf]; exact h.ready_iff

theorem queueInv_owners {s t : State} (hf : OwnersFrame s t) (h : s.QueueInv) : t.QueueInv :=
  queueInv_congr h hf.rq hf.ready

theorem queueInv_same {s t : State} (hs : s.SameBesidesActions t) (h : s.QueueInv) : t.QueueInv :=
  queueInv_congr h hs.received.1 (hs.flags .rxReady (by decide) (by decide))

/-- A record offered is added where there is room, and RX_READY set with it (R77, R81). -/
theorem queueInv_offerRecord {s : State} (r : RxRecord) (h : s.QueueInv) : (s.offerRecord r).QueueInv := by
  unfold State.offerRecord
  split
  next hlt =>
    refine ⟨?_, by simp [flag_setFlag]⟩
    show (s.rq ++ [r]).length ≤ 16
    rw [List.length_append]
    exact hlt
  · exact queueInv_owners (((OwnersFrame.refl s).countStat .overruns).setFlag .rxOverrun (by decide)) h

theorem queueInv_matchFrame {s : State} (x : RxFrame) (h : s.QueueInv) : (s.matchFrame x).1.QueueInv := by
  rcases matchFrame_cases s x with e | ⟨l, e | ⟨r, e⟩⟩ <;> rw [e]
  · exact h
  · exact queueInv_congr h rfl rfl
  · exact queueInv_offerRecord r (queueInv_congr h rfl rfl)

theorem tasksKept_queue : TasksKept State.QueueInv where
  free _ _ h := queueInv_congr h rfl rfl
  fire s r _ _ h := queueInv_same (same_fire s r) h
  suppress s r o root h := queueInv_same (same_suppress s r o root) h
  matchFrame _ x h := queueInv_matchFrame x h
  openObligation s h := queueInv_owners (OwnersFrame.refl s).openObligation h
  doneArrival s x h := queueInv_owners ((OwnersFrame.refl s).doneArrival x) h
  withdrawArrival s x h := queueInv_owners ((OwnersFrame.refl s).withdrawArrival x) h
  choose s h := queueInv_owners (OwnersFrame.refl s).arbiter h
  count s c k e h := by
    unfold State.countEdge
    dsimp only
    split <;> exact queueInv_congr h rfl rfl

/-- RX RELEASE clears RX_READY with the last record (R81). -/
theorem queueInv_rxRelease {s : State} {r : RxRecord} {rest : List RxRecord} (hq : s.rq = r :: rest)
    (h : s.QueueInv) :
    State.QueueInv (if rest.isEmpty then { s with rq := rest }.clearFlag .rxReady else { s with rq := rest }) := by
  have hlen : rest.length ≤ 16 := by
    have := h.capacity
    rw [hq] at this
    exact (Nat.le_succ _).trans this
  have hset : s.flag .rxReady = true := h.ready_iff.mpr (by simp [hq])
  cases rest with
  | nil =>
    refine ⟨hlen, ?_⟩
    rw [List.isEmpty_nil, if_pos rfl, flag_clearFlag]
    simp [State.clearFlag]
  | cons x rest => exact ⟨hlen, ⟨fun _ => List.cons_ne_nil _ _, fun _ => hset⟩⟩

theorem queueInv_took {s t : State} (ht : Took s t) (h : s.QueueInv) : t.QueueInv := by
  cases ht with
  | joinConfig => rw [applyImage_frame]; exact queueInv_congr h rfl rfl
  | leave hs ho => exact queueInv_owners (ownersFrame_takeLeave hs ho) (queueInv_congr h rfl rfl)
  | holdAssert => exact queueInv_owners (OwnersFrame.refl _).arbiter (queueInv_congr h rfl rfl)
  | holdRelease => exact queueInv_owners (OwnersFrame.refl _).arbiter (queueInv_congr h rfl rfl)
  | load kind index f _ hs ht => rw [loadEntry_frame ht]; exact queueInv_congr h rfl rfl
  | slotRequest i => exact queueInv_owners ((OwnersFrame.refl s).requestSlot i) h
  | abortPending i => exact queueInv_owners ((OwnersFrame.refl s).arriveDone i _ _).arbiter h
  | rxRelease r rest hq => exact queueInv_rxRelease hq h
  | callWithdraw k => exact queueInv_owners ((OwnersFrame.refl s).setCall k _).arbiter h
  | oblFinish o status bytes => exact queueInv_owners ((OwnersFrame.refl s).finishObl o status bytes) h
  | oblDiscard o => exact queueInv_owners ((OwnersFrame.refl s).freeObl o) h
  | arm r => rcases s.armReaction_eq r with e | ⟨x, e⟩ <;> rw [e] <;> exact queueInv_congr h rfl rfl
  | disarm r => rcases s.disarmReaction_eq r with e | ⟨x, e⟩ <;> rw [e] <;> exact queueInv_congr h rfl rfl
  | force r hs ha => exact tasksKept_queue.force s r hs ha h
  | trainStop g => rcases stopTrain_frame s g with e | ⟨x, e⟩ <;> rw [e] <;> exact queueInv_congr h rfl rfl
  | outputWrite lines levels => rw [writeOutputs_frame]; exact queueInv_congr h rfl rfl
  | flagsRead => exact queueInv_congr h rfl (by simp [flag_clearHeldFlags])
  | _ => exact queueInv_congr h rfl rfl

theorem queueInv_deviceReset (s : State) (held hcsLow : Bool) : (s.deviceReset held hcsLow).QueueInv :=
  ⟨Nat.zero_le _, by simp [State.deviceReset, State.reset, State.flag]⟩

theorem queueInv_port {s t : State} (ht : PortStep s t) (h : s.QueueInv) : t.QueueInv := by
  rcases ht.hp_or_reset with ⟨x, rfl⟩ | ⟨held, hcsLow, x, rfl⟩
  · exact queueInv_congr h rfl rfl
  · exact queueInv_congr (queueInv_deviceReset s held hcsLow) rfl rfl

theorem rowsKept_queue : RowsKept State.QueueInv where
  port _ _ ht h := queueInv_port ht h
  command := command_keeps tasksKept_queue (fun _ _ => queueInv_port) (fun _ _ h => queueInv_congr h rfl rfl)
    fun _ _ => queueInv_took
  stale _ _ _ _ h := queueInv_congr h rfl rfl
  carry _ e _ _ h := carryOut_keeps tasksKept_queue (fun _ _ => queueInv_owners)
    (fun _ _ h => queueInv_congr h rfl rfl) _ e (queueInv_congr h rfl rfl)
  sof s c _ h := by rw [driveSof_frame]; exact queueInv_congr h rfl rfl
  edge := edgeInput_keeps tasksKept_queue fun _ _ h => queueInv_congr h rfl rfl
  timer := expireTimer_keeps tasksKept_queue fun _ _ h => queueInv_congr h rfl rfl
  lead := leadTrain_keeps tasksKept_queue (fun _ _ h => queueInv_congr h rfl rfl)
    fun _ _ h => queueInv_congr h rfl rfl
  trail := trailTrain_keeps tasksKept_queue (fun _ _ h => queueInv_congr h rfl rfl)
    fun _ _ h => queueInv_congr h rfl rfl
  call := expireCall_keeps tasksKept_queue fun s k _ =>
    queueInv_owners (((OwnersFrame.refl s).setCall k _).settleCall k _)
  tick _ _ h := queueInv_congr h rfl rfl
  readBit s level _ _ h := by
    unfold State.readBit State.ripenIdle
    split <;> exact queueInv_congr h rfl rfl

/-! ## The Host Port -/

theorem portInv_congr {s t : State} (h : s.PortInv) (hp : t.hp = s.hp) : t.PortInv where
  hso_iff := by rw [hp]; exact h.hso_iff
  parameters := by rw [hp]; exact h.parameters
  reply := by rw [hp]; exact h.reply
  ordered := by rw [hp]; exact h.ordered

theorem tasksKept_port (x : HostPort) : TasksKept fun s => s.hp = x where
  free _ _ h := h
  fire s r _ _ h := (same_fire s r).ports.1.trans h
  suppress _ _ _ _ h := h
  matchFrame s x h := by rw [matchFrame_frame]; exact h
  openObligation s h := (OwnersFrame.refl s).openObligation.hp.trans h
  doneArrival s x h := ((OwnersFrame.refl s).doneArrival x).hp.trans h
  withdrawArrival s x h := ((OwnersFrame.refl s).withdrawArrival x).hp.trans h
  choose s h := s.arbiter_hp.trans h
  count s c k e h := by
    unfold State.countEdge
    dsimp only
    split <;> exact h

/-- A port that goes to a phase with no parameters in it, nothing to send and no reset ordered. -/
theorem portInv_of_quiet {s : State} (hp : s.hp.phase = .inReset ∨ s.hp.phase = .deselected
      ∨ s.hp.phase = .command ∨ s.hp.phase = .trailing)
    (hso : s.hp.hso = none ↔ s.hp.phase = .deselected ∨ s.hp.phase = .inReset)
    (ho : s.hp.phase ≠ .trailing → s.hp.resetOrdered = false) : s.PortInv where
  hso_iff := hso
  parameters got h := by rw [h] at hp; simp at hp
  reply left h := by rw [h] at hp; simp at hp
  ordered h := by
    by_cases ht : s.hp.phase = .trailing
    · exact .inr ht
    · rw [ho ht] at h
      cases h

/-- Whatever the port did before, its reply puts it in order (R195). -/
theorem portInv_reply (s : State) (st : Status) (data : List Byte) : (s.reply st data).PortInv where
  hso_iff := by simp
  parameters got h := by cases h
  reply left h := by
    injection h with h
    rw [← h]
    exact List.cons_ne_nil _ _
  ordered _ := .inl ⟨_, rfl⟩

theorem portInv_deviceReset (s : State) (held hcsLow : Bool) : (s.deviceReset held hcsLow).PortInv := by
  cases held <;> cases hcsLow <;>
    exact portInv_of_quiet (by simp [State.deviceReset, HostPort.atReset])
      (by simp [State.deviceReset, HostPort.atReset]) fun _ => rfl

/-- A rise of HCS leaves no transaction, and no reset ordered (R196, R197). -/
theorem portInv_riseHcs (s : State) (clocked : Bool) : (s.riseHcs clocked).PortInv := by
  unfold State.riseHcs
  dsimp only
  split
  · exact portInv_deviceReset _ _ _
  next ho => exact portInv_of_quiet (by simp) (by simp) fun _ => by simpa using ho

theorem portInv_fallHcs {s : State} (h : s.PortInv) : s.fallHcs.PortInv := by
  unfold State.fallHcs
  split
  next hd =>
    have ho : s.hp.resetOrdered = false := by
      refine Bool.eq_false_iff.mpr fun hr => ?_
      rcases h.ordered hr with ⟨left, hp⟩ | hp <;> rw [hd] at hp <;> cases hp
    exact portInv_of_quiet (by simp) (by simp) fun _ => ho
  · exact h

/-- A byte shifted out leaves the rest of the reply, or ends it (R195). -/
theorem portInv_replyByte {s : State} {left : List Byte} (hp : s.hp.phase = .reply left) (h : s.PortInv) :
    (replyByte left s).PortInv := by
  have hso : s.hp.hso ≠ none := fun hn => by
    rcases h.hso_iff.mp hn with hd | hd <;> rw [hp] at hd <;> cases hd
  match left with
  | [] => exact absurd rfl (h.reply [] hp)
  | [b] => exact portInv_of_quiet (by simp [replyByte]) (by simp [replyByte]) (by simp [replyByte])
  | b :: c :: rest =>
    exact { hso_iff := by simp [replyByte]
            parameters := fun got hg => by simp [replyByte] at hg
            reply := fun left hl => by
              simp only [replyByte, List.isEmpty_cons, Bool.false_eq_true, if_false] at hl
              injection hl with hl
              rw [← hl]
              exact List.cons_ne_nil _ _
            ordered := fun _ => .inl ⟨c :: rest, by simp [replyByte]⟩ }

/-- The phases between a command's first byte and its last, in which no reset is ordered. -/
theorem portInv_parameters {s : State} {got : List Byte} {x : Option Byte} (hx : x ≠ none)
    (hg : ∃ code ps n, got = code :: ps ∧ paramCount code = some n ∧ ps.length < n)
    (ho : s.hp.resetOrdered = false) :
    State.PortInv { s with hp := { s.hp with phase := .parameters got, hso := x } } where
  hso_iff := by simp [hx]
  parameters got' h := by
    injection h with h
    rw [← h]
    exact hg
  reply left h := by cases h
  ordered h := by rw [show s.hp.resetOrdered = true from h] at ho; cases ho

theorem portInv_port {s t : State} (ht : PortStep s t) (h : s.PortInv) : t.PortInv := by
  have unordered (hr : ∀ left, s.hp.phase ≠ .reply left) (htr : s.hp.phase ≠ .trailing) :
      s.hp.resetOrdered = false := by
    refine Bool.eq_false_iff.mpr fun ho => ?_
    rcases h.ordered ho with ⟨left, hp⟩ | hp
    · exact hr left hp
    · exact htr hp
  cases ht with
  | stay => exact h
  | reset held hcsLow => exact portInv_deviceReset s held hcsLow
  | fall => exact portInv_fallHcs h
  | rise clocked => exact portInv_riseHcs s clocked
  | unknown code => exact portInv_reply _ _ _
  | gather code n hp hc =>
    exact portInv_parameters (by simp) ⟨code, [], n + 1, rfl, hc, Nat.succ_pos n⟩
      (unordered (by simp [hp]) (by simp [hp]))
  | more got b n hp hc hn =>
    have hso : s.hp.hso ≠ none := fun hn => by
      rcases h.hso_iff.mp hn with hd | hd <;> rw [hp] at hd <;> cases hd
    obtain ⟨code, ps, m, rfl, hm, -⟩ := h.parameters got hp
    rw [List.head?_cons, Option.bind_some, hm] at hc
    cases hc
    exact portInv_parameters hso ⟨code, ps ++ [b], n, rfl, hm, by simpa using hn⟩
      (unordered (by simp [hp]) (by simp [hp]))
  | shift left hp => exact portInv_replyByte hp h
  | trail hp => exact portInv_of_quiet (by simp [hp]) (by simp [hp]) (by simp [hp])

theorem portInv_hostCommand (c : Instr) (s : State) (h : s.PortInv) :
    (s.hostCommand c (takenBy c)).PortInv := by
  unfold State.hostCommand
  split
  · exact h
  · exact portInv_congr (portInv_reply _ _ _) ((tasksKept_port _).settleTasks _ _ rfl)

theorem rowsKept_port : RowsKept State.PortInv := by
  have keeps {f : State → State} (hf : ∀ x s, s.hp = x → (f s).hp = x) (s : State) (h : s.PortInv) :
      (f s).PortInv := portInv_congr h (hf s.hp s rfl)
  exact
    { port := fun _ _ ht h => portInv_port ht h
      command := portInv_hostCommand
      stale := fun _ _ _ _ h => portInv_congr h rfl
      carry := fun s e _ _ h => portInv_congr h (carryOut_keeps (tasksKept_port s.hp)
        (fun _ _ hf h => hf.hp.trans h) (fun _ _ h => h) _ e rfl)
      sof := fun s c _ h => by rw [driveSof_frame]; exact portInv_congr h rfl
      edge := fun s k h => keeps (f := (State.edgeInput · k))
        (fun x s => edgeInput_keeps (tasksKept_port x) (fun _ _ h => h) s k) s h
      timer := fun s t h => keeps (f := (State.expireTimer · t))
        (fun x s => expireTimer_keeps (tasksKept_port x) (fun _ _ h => h) s t) s h
      lead := fun s g h => keeps (f := (State.leadTrain · g))
        (fun x s => leadTrain_keeps (tasksKept_port x) (fun _ _ h => h) (fun _ _ h => h) s g) s h
      trail := fun s g h => keeps (f := (State.trailTrain · g))
        (fun x s => trailTrain_keeps (tasksKept_port x) (fun _ _ h => h) (fun _ _ h => h) s g) s h
      call := fun s k h => keeps (f := (State.expireCall · k))
        (fun x s => expireCall_keeps (tasksKept_port x)
          (fun s k _ h => (((OwnersFrame.refl s).setCall k _).settleCall k _).hp.trans h) s k) s h
      tick := fun _ _ h => portInv_congr h rfl
      readBit := fun s level _ _ h => by
        unfold State.readBit State.ripenIdle
        split <;> exact portInv_congr h rfl }

end Sys2Proof.Machine
end

section
/-! SUPPORT. Station lists (R86, R89): what `insertStation` and the reading of a response list give. -/

namespace Sys2Proof.Machine

/-! ## Ascending lists -/

theorem mem_insertStation (x y : Station) (l : List Station) : y ∈ insertStation x l ↔ y = x ∨ y ∈ l := by
  induction l with
  | nil => simp [insertStation]
  | cons z l ih =>
    unfold insertStation
    split
    · simp
    · split
      next hz => simp [hz]
      · simp only [List.mem_cons, ih]
        exact or_left_comm

theorem insertStation_pairwise {x : Station} {l : List Station} (h : l.Pairwise (· < ·)) :
    (insertStation x l).Pairwise (· < ·) := by
  induction l with
  | nil => simp [insertStation]
  | cons z l ih =>
    obtain ⟨hz, hl⟩ := List.pairwise_cons.mp h
    unfold insertStation
    split
    next hx =>
      refine List.pairwise_cons.mpr ⟨fun y hy => ?_, h⟩
      rcases List.mem_cons.mp hy with rfl | hy
      · exact hx
      · exact BitVec.lt_trans hx (hz y hy)
    next hx =>
      split
      · exact h
      next hne =>
        refine List.pairwise_cons.mpr ⟨fun y hy => ?_, ih hl⟩
        rcases (mem_insertStation x y l).mp hy with rfl | hy
        · exact BitVec.lt_def.mpr (Nat.lt_of_le_of_ne (BitVec.not_lt.mp hx) fun e => hne (BitVec.eq_of_toNat_eq e.symm))
        · exact hz y hy

/-- A station that is new to the list is added to it once. -/
theorem insertStation_perm {x : Station} {l : List Station} (h : x ∉ l) : (insertStation x l).Perm (x :: l) := by
  induction l with
  | nil => exact List.Perm.refl _
  | cons z l ih =>
    obtain ⟨hne, hl⟩ : x ≠ z ∧ x ∉ l := by simpa using h
    unfold insertStation
    split
    · exact List.Perm.refl _
    · exact ((ih hl).cons z).trans (List.Perm.swap x z l)

/-- Several stations put in. -/
def insertStations (xs l : List Station) : List Station := xs.foldl (fun l x => insertStation x l) l

theorem mem_insertStations (xs : List Station) (y : Station) (l : List Station) :
    y ∈ insertStations xs l ↔ y ∈ l ∨ y ∈ xs := by
  induction xs generalizing l with
  | nil => simp [insertStations]
  | cons x xs ih =>
    rw [insertStations, List.foldl_cons]
    rw [show (y ∈ xs.foldl _ _) = (y ∈ insertStations xs (insertStation x l)) from rfl, ih, mem_insertStation,
      List.mem_cons]
    tauto

theorem insertStations_pairwise (xs : List Station) {l : List Station} (h : l.Pairwise (· < ·)) :
    (insertStations xs l).Pairwise (· < ·) := by
  induction xs generalizing l with
  | nil => exact h
  | cons x xs ih => exact ih (insertStation_pairwise h)

theorem insertStations_perm {xs l : List Station} (hx : xs.Nodup) (hd : ∀ x ∈ xs, x ∉ l) :
    (insertStations xs l).Perm (xs ++ l) := by
  induction xs generalizing l with
  | nil => exact List.Perm.refl _
  | cons x xs ih =>
    obtain ⟨hnew, hx⟩ := List.nodup_cons.mp hx
    have hp := insertStation_perm (hd x List.mem_cons_self)
    have hrest : ∀ y ∈ xs, y ∉ insertStation x l := by
      intro y hy hm
      rcases (mem_insertStation x y l).mp hm with rfl | hm
      · exact hnew hy
      · exact hd y (List.mem_cons_of_mem _ hy) hm
    calc insertStations (x :: xs) l
        = insertStations xs (insertStation x l) := rfl
      List.Perm _ (xs ++ insertStation x l) := ih hx hrest
      List.Perm _ (xs ++ x :: l) := hp.append_left xs
      List.Perm _ (x :: xs ++ l) := List.perm_middle

/-! ## The lists of a response list (R89) -/

/-- What the bytes read so far have made of the two lists. -/
structure ListsRead (own : Station) (responses : List Byte) (p : List Station × List Station) : Prop where
  enrolled_ascending : p.1.Pairwise (· < ·)
  busy_ascending : p.2.Pairwise (· < ·)
  disjoint : ∀ x, x ∈ p.1 → x ∉ p.2
  own_not_enrolled : own ∉ p.1
  own_not_busy : own ∉ p.2
  few : p.1.length + p.2.length ≤ responses.length
  enrolled_iff : ∀ x, x ≠ own →
    (x ∈ p.1 ↔ ∃ b, responses.find? (fun b => responseStation b == x) = some b ∧ responseBusy b = false)
  busy_iff : ∀ x, x ≠ own →
    (x ∈ p.2 ↔ ∃ b, responses.find? (fun b => responseStation b == x) = some b ∧ responseBusy b = true)

theorem insertStation_length_le (x : Station) (l : List Station) : (insertStation x l).length ≤ l.length + 1 := by
  induction l with
  | nil => simp [insertStation]
  | cons z l ih =>
    unfold insertStation
    split
    · simp
    · split
      · simp
      · simpa using ih

/-- A station is listed where some byte read names it. -/
theorem ListsRead.listed_iff {own : Station} {responses : List Byte} {p : List Station × List Station}
    (h : ListsRead own responses p) {x : Station} (hx : x ≠ own) :
    x ∈ p.1 ∨ x ∈ p.2 ↔ (responses.find? fun b => responseStation b == x).isSome := by
  rw [h.enrolled_iff x hx, h.busy_iff x hx]
  cases responses.find? fun b => responseStation b == x with
  | none => simp
  | some b => cases hb : responseBusy b <;> simp [hb]

/-- The first byte that names a station, once one more byte is read. -/
theorem find_append_response (responses : List Byte) (b : Byte) (x : Station) :
    (responses ++ [b]).find? (fun b => responseStation b == x)
      = (responses.find? fun b => responseStation b == x).or
        (if responseStation b = x then some b else none) := by
  rw [List.find?_append]
  by_cases h : responseStation b = x <;> simp [h]

theorem listsRead_response {own : Station} {responses : List Byte} {p : List Station × List Station}
    (h : ListsRead own responses p) (b : Byte) : ListsRead own (responses ++ [b]) (listResponse own p b) := by
  have hlen : (responses ++ [b]).length = responses.length + 1 := by simp
  have hfew := h.few
  by_cases hskip : responseStation b = own ∨ responseStation b ∈ p.1 ∨ responseStation b ∈ p.2
  case pos =>
    have hp : listResponse own p b = p := by
      unfold listResponse
      dsimp only
      rw [if_pos]
      simpa [or_assoc] using hskip
    have hfind : ∀ x, x ≠ own → (responses ++ [b]).find? (fun b => responseStation b == x)
        = responses.find? fun b => responseStation b == x := by
      intro x hx
      rw [find_append_response]
      by_cases hb : responseStation b = x
      · have hl : (responses.find? fun b => responseStation b == x).isSome := by
          refine (h.listed_iff hx).mp ?_
          rw [← hb] at hx ⊢
          exact hskip.resolve_left hx
        obtain ⟨c, hc⟩ := Option.isSome_iff_exists.mp hl
        simp [hc]
      · simp [hb]
    rw [hp]
    exact { h with
      few := by omega
      enrolled_iff := fun x hx => by rw [hfind x hx]; exact h.enrolled_iff x hx
      busy_iff := fun x hx => by rw [hfind x hx]; exact h.busy_iff x hx }
  case neg =>
    obtain ⟨hown, hone, htwo⟩ := not_or.mp hskip |> fun h => (⟨h.1, not_or.mp h.2⟩ : _ ∧ _ ∧ _)
    have hnone : (responses.find? fun c => responseStation c == responseStation b) = none := by
      rw [← Option.not_isSome_iff_eq_none, ← h.listed_iff hown]
      exact not_or.mpr ⟨hone, htwo⟩
    have hfind : ∀ x, x ≠ responseStation b → (responses ++ [b]).find? (fun b => responseStation b == x)
        = responses.find? fun b => responseStation b == x := by
      intro x hx
      rw [find_append_response, if_neg (Ne.symm hx), Option.or_none]
    have hfirst : (responses ++ [b]).find? (fun c => responseStation c == responseStation b) = some b := by
      rw [find_append_response, hnone, if_pos rfl, Option.none_or]
    have hnew : listResponse own p b = if responseBusy b then (p.1, insertStation (responseStation b) p.2)
        else (insertStation (responseStation b) p.1, p.2) := by
      unfold listResponse
      dsimp only
      rw [if_neg]
      simpa [or_assoc] using hskip
    rw [hnew]
    cases hb : responseBusy b with
    | true =>
      exact
        { enrolled_ascending := h.enrolled_ascending
          busy_ascending := insertStation_pairwise h.busy_ascending
          disjoint := fun x hx hy => by
            rcases (mem_insertStation _ _ _).mp hy with rfl | hy
            · exact hone hx
            · exact h.disjoint x hx hy
          own_not_enrolled := h.own_not_enrolled
          own_not_busy := fun hy => by
            rcases (mem_insertStation _ _ _).mp hy with hy | hy
            · exact hown hy.symm
            · exact h.own_not_busy hy
          few := by
            have := insertStation_length_le (responseStation b) p.2
            simp only [if_true]
            omega
          enrolled_iff := fun x hx => by
            by_cases he : x = responseStation b
            · simp [he, hfirst, hb, hone]
            · rw [hfind x he]; exact h.enrolled_iff x hx
          busy_iff := fun x hx => by
            by_cases he : x = responseStation b
            · simp [he, hfirst, hb, mem_insertStation]
            · rw [hfind x he]
              simpa [mem_insertStation, he] using h.busy_iff x hx }
    | false =>
      exact
        { enrolled_ascending := insertStation_pairwise h.enrolled_ascending
          busy_ascending := h.busy_ascending
          disjoint := fun x hx hy => by
            rcases (mem_insertStation _ _ _).mp hx with rfl | hx
            · exact htwo hy
            · exact h.disjoint x hx hy
          own_not_enrolled := fun hy => by
            rcases (mem_insertStation _ _ _).mp hy with hy | hy
            · exact hown hy.symm
            · exact h.own_not_enrolled hy
          own_not_busy := h.own_not_busy
          few := by
            have := insertStation_length_le (responseStation b) p.1
            simp only [Bool.false_eq_true, if_false]
            omega
          enrolled_iff := fun x hx => by
            by_cases he : x = responseStation b
            · simp [he, hfirst, hb, mem_insertStation]
            · rw [hfind x he]
              simpa [mem_insertStation, he] using h.enrolled_iff x hx
          busy_iff := fun x hx => by
            by_cases he : x = responseStation b
            · simp [he, hfirst, hb, htwo]
            · rw [hfind x he]; exact h.busy_iff x hx }

/-- The enrolment and busy lists of a response list (R89). -/
theorem listsRead_responseLists (own : Station) (responses : List Byte) :
    ListsRead own responses (responseLists own responses) := by
  induction responses using List.reverseRecOn with
  | nil => constructor <;> simp [responseLists]
  | append_singleton responses b ih =>
    have : responseLists own (responses ++ [b]) = listResponse own (responseLists own responses) b := by
      simp [responseLists, List.foldl_append]
    rw [this]
    exact listsRead_response ih b

/-! ## Opening and settling a call, written out -/

/-- A settlement gives up the stations still outstanding, but for ALL_DONE (R86, R87). -/
theorem settleCall_written (s : State) (k : Fin 8) (x : CallOutcome) : s.settleCall k x
    = (((s.setCall k { s.call k with
        state := .settled
        outcome := some x
        settledAt := s.now
        withdrawPending := false
        expiring := false
        outstanding := if x = .allDone then (s.call k).outstanding else []
        unanswered := if x = .allDone then (s.call k).unanswered
          else insertStations (s.call k).outstanding (s.call k).unanswered
        }).setFlag .callSettled).addCallSettled k).arbiter := by
  rw [State.settleCall_eq]
  unfold CallEntry.giveUp
  by_cases hx : x = .allDone
  · simp only [hx, if_true]
  · simp only [hx, if_false]
    rfl

/-- The entry of an opened call as its lists are read (R89, R90). -/
def CallEntry.listed (e : CallEntry) (lists : List Station × List Station) (now : Stamp) : CallEntry :=
  { e with
    enrolled := lists.1
    busy := lists.2
    outstanding := lists.1
    results := []
    unanswered := []
    openedAt := now }

/-- A call that enrols somebody is OPEN (R90). -/
theorem openCall_of_enrolled {s : State} {k : Fin 8} {responses : List Byte}
    (h : (responseLists s.lc.station responses).1 ≠ []) : s.openCall k responses
      = (s.setCall k { (s.call k).listed (responseLists s.lc.station responses) s.now with
          state := .opened, remaining := (s.call k).deadline, fraction := 0 }, []) := by
  unfold State.openCall
  dsimp only
  rw [if_neg (by simpa using h)]
  rfl

/-- A call that enrols nobody settles UNANSWERED (R90). -/
theorem openCall_of_none {s : State} {k : Fin 8} {responses : List Byte}
    (h : (responseLists s.lc.station responses).1 = []) : s.openCall k responses
      = ((s.setCall k ((s.call k).listed (responseLists s.lc.station responses) s.now)).settleCall k .unanswered,
        [.callSettled k .unanswered]) := by
  unfold State.openCall
  dsimp only
  rw [if_pos (by simpa using h)]
  rfl

/-- Settles O52: the lists by induction on the bytes read, the opening by whether anybody is enrolled, and the
settlement as it is written out. -/
theorem callsOpenAndSettle : Obligations.CallsOpenAndSettle := by
  refine ⟨⟨fun own responses => ?lists, fun s k responses => ⟨fun h => ?opens, fun h => ?unanswered⟩⟩,
    settleCall_written⟩
  case lists =>
    have h := listsRead_responseLists own responses
    exact ⟨h.enrolled_ascending, h.busy_ascending, h.disjoint, h.own_not_enrolled, h.own_not_busy, h.few,
      fun x hx => ⟨h.enrolled_iff x hx, h.busy_iff x hx⟩⟩
  case opens => exact openCall_of_enrolled h
  case unanswered =>
    rw [openCall_of_none h, settleCall_written, State.call_setCall_self, State.setCall_setCall]
    simp only [CallEntry.listed, h]
    rfl

end Sys2Proof.Machine
end

section
/-! SUPPORT. Link state, bus phase, line condition and frame fit each other through every row (R22, R24, R28, R29, R33,
R66). -/

namespace Sys2Proof.Machine

/-! ## What the invariant rests on -/

theorem linkInv_congr {s t : State} (h : s.LinkInv) (ht : t.lc = s.lc) : t.LinkInv := by
  have hoff : t.offBus ↔ s.offBus := by unfold State.offBus; rw [ht]
  have hown : t.ownHold = s.ownHold := by unfold State.ownHold; rw [ht]
  exact
    { out_iff := by rw [hoff, ht]; exact h.out_iff
      await_integrating := by rw [ht]; exact h.await_integrating
      integrating_phase := by rw [ht]; exact h.integrating_phase
      held_iff := by rw [ht]; exact h.held_iff
      await_hold := by rw [ht]; exact h.await_hold
      frame_iff := by rw [ht]; exact h.frame_iff
      flight_active := by rw [ht]; exact h.flight_active
      own_hold_active := by rw [hown, ht]; exact h.own_hold_active
      quiet_iff := by rw [ht]; exact h.quiet_iff
      off_due := by rw [hoff, ht]; exact h.off_due }

namespace State.LinkInv
variable {s : State} (h : s.LinkInv)
include h

/-- On the line the phase is not OUT. -/
theorem onBus (hp : s.lc.phase ≠ .out) : ¬ s.offBus := fun ho => hp (h.out_iff.mpr ho)

omit h in
theorem onBus_of_state (hs : s.lc.state = .integrating ∨ s.lc.state = .active ∨ s.lc.state = .quiet) :
    ¬ s.offBus := by
  unfold State.offBus
  rcases hs with hs | hs | hs <;> rw [hs] <;> decide

/-- In ACTIVE the bus is idle, in a frame, in recovery or in a hold. -/
theorem active_phase (hs : s.lc.state = .active) : s.lc.phase ≠ .out ∧ s.lc.phase ≠ .await :=
  ⟨fun hp => onBus_of_state (.inr (.inl hs)) (h.out_iff.mp hp),
    fun hp => by have := h.await_integrating hp; rw [hs] at this; cases this⟩

theorem no_flight (hs : s.lc.state ≠ .active) : s.lc.inFlight = none :=
  Option.not_isSome_iff_eq_none.mp fun hf => hs (h.flight_active hf).1

theorem no_ownHold (hs : s.lc.state ≠ .active) : s.lc.holdFlag = false ∧ s.lc.pulse = 0 := by
  have : s.ownHold ≠ true := fun hf => hs (h.own_hold_active hf)
  simpa [State.ownHold] using this

theorem no_frame (hp : s.lc.phase ≠ .frame) : s.lc.frame = none :=
  Option.not_isSome_iff_eq_none.mp fun hf => hp (h.frame_iff.mp hf)

theorem no_quiet (hs : s.lc.state ≠ .quiet) : s.lc.quiet = none :=
  Option.not_isSome_iff_eq_none.mp fun hf => hs (h.quiet_iff.mp hf)

theorem not_held (hp : s.lc.phase ≠ .hold) : s.lc.held = false :=
  Bool.eq_false_iff.mpr fun hf => hp (h.held_iff.mp hf)

end State.LinkInv

/-! ## Moves of the Link Controller -/

/-- The phases between which the frames of a station in ACTIVE or QUIET move it. -/
def BusPhase.ofFrames (p : BusPhase) : Prop := p = .idle ∨ p = .frame ∨ p = .recovery

theorem BusPhase.ofFrames_ne {p : BusPhase} (h : p.ofFrames) : p ≠ .out ∧ p ≠ .await ∧ p ≠ .hold := by
  rcases h with rfl | rfl | rfl <;> decide

/-- A move between IDLE, FRAME and RECOVERY. -/
theorem linkInv_ofFrames {s t : State} (h : s.LinkInv) (hs : s.lc.phase.ofFrames) {p : BusPhase} {f : Option Frame}
    {x : Option Candidate} {r n : Nat} {c : Option Choice} (ht : t.lc = { s.lc with
      phase := p, frame := f, inFlight := x, recovery := r, failures := n, choice := c })
    (hp : p.ofFrames) (hf : f.isSome = true ↔ p = .frame) (hx : x.isSome = true → s.lc.state = .active) :
    t.LinkInv := by
  obtain ⟨hso, hsa, hsh⟩ := BusPhase.ofFrames_ne hs
  obtain ⟨hpo, hpa, hph⟩ := BusPhase.ofFrames_ne hp
  have hoff : ¬ s.offBus := h.onBus hso
  have hint : s.lc.state ≠ .integrating := fun hi => (h.integrating_phase hi).elim hsa hsh
  refine linkInv_congr (s := s.setLc t.lc) ?_ rfl
  rw [ht]
  exact
    { out_iff := ⟨fun ho => absurd ho hpo, fun ho => absurd ho hoff⟩
      await_integrating := fun ha => absurd ha hpa
      integrating_phase := fun hi => absurd hi hint
      held_iff := ⟨fun hh => absurd (h.held_iff.mp hh) hsh, fun hh => absurd hh hph⟩
      await_hold := fun hh => absurd hh hph
      frame_iff := hf
      flight_active := fun hi => ⟨hx hi, hph⟩
      own_hold_active := h.own_hold_active
      quiet_iff := h.quiet_iff
      off_due := fun ho => absurd ho hoff }

/-- A candidate that is in flight no more. -/
theorem linkInv_landed {s : State} (h : s.LinkInv) : (s.setLc { s.lc with inFlight := none }).LinkInv :=
  ⟨h.out_iff, h.await_integrating, h.integrating_phase, h.held_iff, h.await_hold, h.frame_iff,
    fun hf => absurd hf Bool.false_ne_true, h.own_hold_active, h.quiet_iff, h.off_due⟩

/-- Fewer events of the line wait. -/
theorem linkInv_due {s : State} (h : s.LinkInv) {due : List LineEvent} (hd : s.lc.due = [] → due = []) :
    (s.setLc { s.lc with due := due }).LinkInv :=
  ⟨h.out_iff, h.await_integrating, h.integrating_phase, h.held_iff, h.await_hold, h.frame_iff, h.flight_active,
    h.own_hold_active, h.quiet_iff, fun ho => hd (h.off_due ho)⟩

/-- The own hold moves in ACTIVE, or is cleared. -/
theorem linkInv_ownHold {s : State} (h : s.LinkInv) {flag : Bool} {pulse : Nat} {due : List LineEvent}
    (ho : (flag || pulse != 0) = true → s.lc.state = .active) (hd : s.lc.due = [] → due = []) :
    (s.setLc { s.lc with holdFlag := flag, pulse := pulse, due := due }).LinkInv :=
  ⟨h.out_iff, h.await_integrating, h.integrating_phase, h.held_iff, h.await_hold, h.frame_iff, h.flight_active,
    ho, h.quiet_iff, fun ho => hd (h.off_due ho)⟩

theorem linkPred_linkInv : LinkPred State.LinkInv where
  congr _ _ h ht := linkInv_congr h ht
  moves _ _ _ _ h := ⟨h.out_iff, h.await_integrating, h.integrating_phase, h.held_iff, h.await_hold, h.frame_iff,
    h.flight_active, h.own_hold_active, h.quiet_iff, h.off_due⟩
  pulse _ _ ha h := linkInv_ownHold h (fun _ => ha) fun hd => by rw [hd]; rfl

theorem LinkPred.ripen {P : State → Prop} (L : LinkPred P) {s : State} (h : P s) : P s.ripen := L.setChoice rfl h

/-! ## JOIN, LEAVE and device reset -/

theorem linkInv_joined {s : State} (h : s.LinkInv) (hs : s.offBus) (e : StationEntry) :
    (s.setLc (s.lc.joined e)).LinkInv := by
  have hp : s.lc.phase = .out := h.out_iff.mpr hs
  have ha : s.lc.state ≠ .active := fun ha => by simp [State.offBus, ha] at hs
  have hq : s.lc.state ≠ .quiet := fun hq => by simp [State.offBus, hq] at hs
  exact
    { out_iff := by simp [State.offBus, State.setLc, LinkController.joined]
      await_integrating := fun _ => rfl
      integrating_phase := fun _ => .inl rfl
      held_iff := by simp [State.setLc, LinkController.joined]
      await_hold := fun hh => nomatch hh
      frame_iff := by simp [State.setLc, LinkController.joined, h.no_frame (by simp [hp])]
      flight_active := by simp [State.setLc, LinkController.joined]
      own_hold_active := by simp [State.ownHold, State.setLc, LinkController.joined]
      quiet_iff := by simp [State.setLc, LinkController.joined, h.no_quiet hq]
      off_due := fun _ => h.off_due hs }

theorem linkInv_left (s : State) : (s.setLc s.lc.left).LinkInv := by
  constructor <;> simp [State.offBus, State.ownHold, State.setLc, LinkController.left]

theorem linkInv_reset : State.reset.LinkInv := by
  constructor <;> simp [State.offBus, State.ownHold, State.reset, LinkController.reset]

/-! ## Events of the line -/

/-- The station goes to QUIET from a frame that failed. -/
theorem linkInv_enterQuiet {s : State} (h : s.LinkInv) (hs : s.lc.phase = .recovery) (hx : s.lc.inFlight = none) :
    s.enterQuiet.LinkInv := by
  have hnot (p : BusPhase) (hp : p ≠ .recovery) : s.lc.phase ≠ p := fun e => hp (e.symm.trans hs)
  refine linkInv_congr (s := s.setLc s.enterQuiet.lc) ?_ rfl
  exact
    { out_iff := by simp [State.offBus, State.setLc, State.enterQuiet, State.setFlag, hs]
      await_integrating := fun ha => absurd ha (hnot .await (by decide))
      integrating_phase := fun hi => nomatch hi
      held_iff := ⟨fun hh => absurd (h.held_iff.mp hh) (hnot .hold (by decide)),
        fun hh => absurd hh (hnot .hold (by decide))⟩
      await_hold := fun hh => absurd hh (hnot .hold (by decide))
      frame_iff := h.frame_iff
      flight_active := by simp [State.setLc, State.enterQuiet, State.setFlag, hx]
      own_hold_active := by simp [State.ownHold, State.setLc, State.enterQuiet, State.setFlag]
      quiet_iff := by simp [State.setLc, State.enterQuiet, State.setFlag]
      off_due := by simp [State.offBus, State.setLc, State.enterQuiet, State.setFlag] }

/-- The counts after an attempt, on which nothing is in flight any more. -/
theorem linkInv_afterAttempt {s : State} (h : s.LinkInv) (hs : s.lc.phase.ofFrames) (hx : s.lc.inFlight = none)
    (c : TxCode) : (s.afterAttempt c).LinkInv := by
  have recovery : (s.setLc { s.lc with phase := .recovery, recovery := 0, frame := none }).LinkInv :=
    linkInv_ofFrames h hs rfl (.inr (.inr rfl)) (by simp) fun hf => by simp [hx] at hf
  cases c
  case lost | hold => exact h
  case ok => exact linkInv_ofFrames h hs rfl (.inl rfl) (by simp) fun hf => by simp [hx] at hf
  all_goals
    unfold State.afterAttempt
    dsimp only
    split
    · exact linkInv_ofFrames h hs rfl (.inr (.inr rfl)) (by simp) fun hf => by simp [hx] at hf
    · exact linkInv_enterQuiet recovery rfl hx

/-- A hold is detected on the line, and nothing is in flight any more. -/
theorem linkInv_held {s t : State} (h : s.LinkInv) (hp : s.lc.phase ≠ .out) (hh : s.lc.phase ≠ .hold)
    (hx : s.lc.inFlight = none) {c : Option Choice} {stats : Vector Nat 11} (ht : t.lc = { s.lc with
      choice := c, frame := none, holdInAwait := s.lc.phase == .await, phase := .hold, persistence := 0, holdEnd := 0
      held := true, stats := stats }) : t.LinkInv := by
  have hoff := h.onBus hp
  refine linkInv_congr (s := s.setLc t.lc) ?_ rfl
  rw [ht]
  exact
    { out_iff := ⟨fun ho => (nomatch ho), fun ho => absurd ho hoff⟩
      await_integrating := fun ha => (nomatch ha)
      integrating_phase := fun _ => .inr rfl
      held_iff := by simp [State.setLc]
      await_hold := fun _ => by
        simp only [State.setLc, beq_iff_eq]
        exact ⟨h.await_integrating, fun hi => (h.integrating_phase hi).resolve_right hh⟩
      frame_iff := by simp [State.setLc]
      flight_active := by simp [State.setLc, hx]
      own_hold_active := h.own_hold_active
      quiet_iff := h.quiet_iff
      off_due := fun ho => absurd ho hoff }

/-- A hold ends: the phase is AWAIT again where it was, and IDLE otherwise (R31). -/
theorem linkInv_released {s t : State} (h : s.LinkInv) (hp : s.lc.phase = .hold) (ht : t.lc = { s.lc with
      held := false, phase := if s.lc.holdInAwait then .await else .idle, holdInAwait := false, integration := 0
      dominantRun := 0, persistence := 0, holdEnd := 0 }) : t.LinkInv := by
  have hoff := h.onBus (by simp [hp])
  have hawait := h.await_hold hp
  have hframe := h.no_frame (by simp [hp])
  refine linkInv_congr (s := s.setLc t.lc) ?_ rfl
  rw [ht]
  cases ha : s.lc.holdInAwait with
  | true =>
    have hint : s.lc.state = .integrating := hawait.mp ha
    constructor <;> simp [State.offBus, State.ownHold, State.setLc, hint, hframe, h.no_flight, h.no_ownHold, h.no_quiet]
  | false =>
    have hint : s.lc.state ≠ .integrating := fun hi => by simp [hawait.mpr hi] at ha
    exact
      { out_iff := ⟨fun ho => (nomatch ho), fun ho => absurd ho hoff⟩
        await_integrating := fun ha => (nomatch ha)
        integrating_phase := fun hi => absurd hi hint
        held_iff := by simp [State.setLc]
        await_hold := fun hh => (nomatch hh)
        frame_iff := by simp [State.setLc, hframe]
        flight_active := fun hf => absurd hp (h.flight_active hf).2
        own_hold_active := h.own_hold_active
        quiet_iff := h.quiet_iff
        off_due := fun ho => absurd ho hoff }

/-- Integration completes (R26). -/
theorem linkInv_integrated {s t : State} (h : s.LinkInv) (hs : s.lc.state = .integrating) (hp : s.lc.phase = .await)
    (ht : t.lc = { s.lc with state := .active, phase := .idle, integration := 0 }) : t.LinkInv := by
  refine linkInv_congr (s := s.setLc t.lc) ?_ rfl
  rw [ht]
  constructor <;>
    simp [State.offBus, State.setLc, h.no_frame, h.no_quiet, h.not_held, hs, hp]

/-- A QUIET period ends (R40). -/
theorem linkInv_endQuiet {s : State} (h : s.LinkInv) (hs : s.lc.state = .quiet) : s.endQuiet.LinkInv := by
  refine linkInv_congr (s := s.setLc s.endQuiet.lc) ?_ rfl
  by_cases hp : s.lc.phase = .hold
  · constructor <;>
      simp [State.offBus, State.ownHold, State.setLc, State.endQuiet, State.setFlag, h.no_flight, h.no_ownHold, hs, hp,
        h.held_iff]
  · constructor <;>
      simp [State.offBus, State.ownHold, State.setLc, State.endQuiet, State.setFlag, h.no_flight, h.no_ownHold,
        h.not_held, hs, hp]

theorem linkInv_reachEod {s : State} (h : s.LinkInv) : s.reachEod.LinkInv := by
  unfold State.reachEod
  split
  · exact h
  next f hf =>
    split
    · split
      · exact h
      next flt _ =>
        have ht := ((OwnersFrame.refl s).takeVerdict f.callTag (topicOf f.bits) flt).setVerdict
          (some { answer := (s.takeVerdict f.callTag (topicOf f.bits) flt).2, placed := false })
        have hk := linkPred_linkInv.owners ht h
        have hp : s.lc.phase = .frame := h.frame_iff.mp (by simp [hf])
        refine ⟨hk.out_iff, hk.await_integrating, hk.integrating_phase, hk.held_iff, hk.await_hold, ?_,
          hk.flight_active, hk.own_hold_active, hk.quiet_iff, hk.off_due⟩
        exact ⟨fun _ => ht.phase.trans hp, fun _ => rfl⟩
    · exact h

/-- An event of the line that is permitted. -/
theorem linkInv_carryOut {s : State} (h : s.LinkInv) {e : LineEvent} (he : s.lc.permits e = true) :
    (s.carryOut e).LinkInv := by
  have L := linkPred_linkInv
  have hand (c : TxCode) (l : List Byte) : (s.handInFlight c l).1.LinkInv :=
    L.owners (ownersFrame_handInFlight s c l) (linkInv_landed h)
  have ofFrame (hp : s.lc.phase = .frame) : s.lc.phase.ofFrames := .inr (.inl hp)
  cases e with
  | attemptSettled c =>
    have hs := (h.flight_active he)
    have hf : s.lc.phase.ofFrames := by
      have := h.active_phase hs.1
      unfold BusPhase.ofFrames
      cases hp : s.lc.phase <;> simp_all
    have hcount := ((ownersFrame_handInFlight s c s.responseList).trans
      ((OwnersFrame.refl _).countAttempt c))
    refine L.ripen (L.settleTasks _ (linkInv_afterAttempt (L.owners hcount (linkInv_landed h)) ?_ ?_ c))
    · rw [hcount.phase]; exact hf
    · exact hcount.inFlight
  | receiveError c =>
    have hp : s.lc.phase = .frame := by simpa [LinkController.permits] using he
    have ht := ((OwnersFrame.refl s).countReceive c).breakVerdict
    refine linkInv_ofFrames (s := (s.countReceive c).breakVerdict) (L.owners ht h) ?_ rfl (.inr (.inr rfl)) (by simp) ?_
    · rw [ht.phase]; exact ofFrame hp
    · intro hx
      rw [ht.inFlight] at hx
      exact ht.linkState.trans (h.flight_active hx).1
  | peerSof =>
    have hp : s.lc.phase = .idle := by simpa [LinkController.permits] using he
    exact linkInv_ofFrames h (.inl hp) rfl (.inr (.inl rfl)) (by simp) fun hx => (h.flight_active hx).1
  | eodPoint => exact linkInv_reachEod h
  | placed => exact linkInv_congr h rfl
  | crowded =>
    exact L.owners (((OwnersFrame.refl s).releaseVerdict.countStat .crowded).setFlag .oblNote (by decide)) h
  | frameEnd =>
    have hp : s.lc.phase = .frame := by
      simp only [LinkController.permits, Bool.and_eq_true, beq_iff_eq] at he
      exact he.1
    simp only [State.carryOut, State.endFrame]
    split
    · exact h
    · exact L.ripen (L.settleTasks _
        (linkInv_ofFrames h (ofFrame hp) rfl (.inl rfl) (by simp) fun hx => (h.flight_active hx).1))
  | recoveryGap =>
    have hp : s.lc.phase = .recovery := by simpa [LinkController.permits] using he
    refine L.ripen (L.arbiter (linkInv_ofFrames (p := .idle) (f := s.lc.frame) h (.inr (.inr hp)) rfl (.inl rfl) ?_
      fun hx => (h.flight_active hx).1))
    simp [h.no_frame, hp]
  | integration =>
    simp only [LinkController.permits, Bool.and_eq_true, beq_iff_eq] at he
    exact L.ripen (L.arbiter (linkInv_integrated h he.1 he.2 rfl))
  | holdDetected =>
    simp only [LinkController.permits, Bool.and_eq_true, bne_iff_ne] at he
    have ht := (ownersFrame_handInFlight s .hold []).trans (OwnersFrame.refl _).breakVerdict
    refine L.settleTasks _ (linkInv_held (s := (s.handInFlight .hold []).1.breakVerdict) ?_ ?_ ?_ ?_ rfl)
    · exact L.owners (OwnersFrame.refl _).breakVerdict (hand .hold [])
    · rw [ht.phase]; exact he.2
    · rw [ht.phase]; exact he.1
    · exact ht.inFlight
  | persistenceMark =>
    simp only [State.carryOut, State.markPersistence]
    exact L.settleTasks _ (linkInv_congr h rfl)
  | holdEnded =>
    have hp : s.lc.phase = .hold := by simpa [LinkController.permits] using he
    exact L.ripen (L.settleTasks _ (linkInv_released h hp rfl))
  | pulseEnds =>
    refine L.ripen (L.arbiter (linkInv_ownHold h (pulse := 0) (flag := s.lc.holdFlag) (due := s.lc.due)
      (fun hf => ?_) id))
    exact h.own_hold_active (by simpa [State.ownHold] using .inl (by simpa using hf))
  | quietEnds => exact linkInv_endQuiet h (by simpa [LinkController.permits] using he)

/-! ## A bit read -/

theorem runBit_fst (lc : LinkController) (read : Level) : (lc.runBit read).1
    = { lc with dominantRun := (lc.runBit read).1.dominantRun } := by
  cases read <;> rfl

theorem phaseBit_fst (lc : LinkController) (own : Bool) (read : Level) : ∃ a b c d f, (lc.phaseBit own read).1
    = { lc with integration := a, recovery := b, persistence := c, holdEnd := d, frame := f }
      ∧ f.isSome = lc.frame.isSome := by
  unfold LinkController.phaseBit
  split
  case h_6 =>
    split
    next hf => exact ⟨_, _, _, _, _, rfl, by simp [hf]⟩
    · exact ⟨_, _, _, _, _, rfl, rfl⟩
  case h_9 => split <;> exact ⟨_, _, _, _, _, rfl, rfl⟩
  all_goals exact ⟨_, _, _, _, _, rfl, rfl⟩

theorem pulseBit_fst (lc : LinkController) : ∃ n, lc.pulseBit.1 = { lc with pulse := n } ∧ n ≤ lc.pulse := by
  unfold LinkController.pulseBit
  split
  · exact ⟨_, rfl, Nat.le_refl _⟩
  · split
    · exact ⟨_, rfl, Nat.le_refl _⟩
    · exact ⟨_, rfl, Nat.sub_le _ _⟩

theorem quietBit_fst (lc : LinkController) : ∃ q, lc.quietBit.1 = { lc with quiet := q }
    ∧ q.isSome = lc.quiet.isSome := by
  unfold LinkController.quietBit
  split
  · exact ⟨_, rfl, rfl⟩
  next hq => split <;> exact ⟨_, rfl, by simp [hq]⟩

/-- A bit read moves counts, and makes events wait. -/
theorem bit_frame (lc : LinkController) (own : Bool) (read : Level) : ∃ a b c d e f n q due, lc.bit own read = { lc with
      integration := a, recovery := b, persistence := c, holdEnd := d, dominantRun := e, frame := f, pulse := n
      quiet := q, due := due }
    ∧ f.isSome = lc.frame.isSome ∧ n ≤ lc.pulse ∧ q.isSome = lc.quiet.isSome := by
  obtain ⟨a, b, c, d, f, hphase, hf⟩ := phaseBit_fst (lc.runBit read).1 own read
  obtain ⟨n, hpulse, hn⟩ := pulseBit_fst ((lc.runBit read).1.phaseBit own read).1
  obtain ⟨q, hquiet, hq⟩ := quietBit_fst ((lc.runBit read).1.phaseBit own read).1.pulseBit.1
  rw [hpulse] at hq
  rw [hphase] at hn hq
  rw [runBit_fst] at hf hn hq
  refine ⟨a, b, c, d, (lc.runBit read).1.dominantRun, f, n, q, (lc.bit own read).due, ?_, hf, hn, hq⟩
  unfold LinkController.bit
  dsimp only
  rw [hquiet, hpulse, hphase, runBit_fst]

theorem linkInv_readBit {s : State} (h : s.LinkInv) (hp : s.lc.phase ≠ .out) (level : Level) :
    (s.readBit level).LinkInv := by
  obtain ⟨a, b, c, d, e, f, n, q, due, hbit, hf, hn, hq⟩ := bit_frame s.lc s.drivesHold level
  have hlc : (s.setLc (s.lc.bit s.drivesHold level)).LinkInv := by
    rw [hbit]
    exact
      { out_iff := h.out_iff
        await_integrating := h.await_integrating
        integrating_phase := h.integrating_phase
        held_iff := h.held_iff
        await_hold := h.await_hold
        frame_iff := by simpa [State.setLc, hf] using h.frame_iff
        flight_active := h.flight_active
        own_hold_active := fun ho => h.own_hold_active (by
          simp only [State.ownHold, State.setLc, Bool.or_eq_true, bne_iff_ne] at ho ⊢
          exact ho.imp_right fun hne => by omega)
        quiet_iff := by simpa [State.setLc, hq] using h.quiet_iff
        off_due := fun ho => absurd ho (h.onBus hp) }
  unfold State.readBit State.ripenIdle
  split
  · exact linkPred_linkInv.setChoice rfl hlc
  · exact hlc

/-! ## Rows -/

theorem linkInv_driveSof {s : State} (h : s.LinkInv) {c : Candidate} (hs : s.sofReady = some c) :
    (s.driveSof c).LinkInv := by
  have hmay : s.mayChoose = true := by
    unfold State.sofReady at hs
    split at hs
    next hm => exact (Bool.and_eq_true _ _ ▸ hm).1
    · cases hs
  have hidle : s.lc.state = .active ∧ s.lc.phase = .idle := by
    simp only [State.mayChoose, State.permission, Bool.and_eq_true, beq_iff_eq] at hmay
    exact ⟨hmay.1.1.1.1, hmay.1.2⟩
  exact linkPred_linkInv.driveSof c
    (linkInv_ofFrames h (.inl hidle.2) rfl (.inr (.inl rfl)) (by simp) fun _ => hidle.1)

theorem Took.linkInv {s t : State} (ht : Took s t) (h : s.LinkInv) : t.LinkInv := by
  have L := linkPred_linkInv
  have owners {u : State} (hu : OwnersFrame s u) : u.LinkInv := L.owners hu h
  cases ht with
  | joinConfig hs hf => exact linkInv_congr (linkInv_joined h (.inl hs) s.image.station) rfl
  | joinOffline hs => exact linkInv_joined h (.inr hs) s.image.station
  | leave hs ho => exact L.owners (ownersFrame_takeLeave hs ho) (linkInv_left s)
  | holdAssert hs =>
    exact L.arbiter (linkInv_ownHold h (flag := true) (pulse := s.lc.pulse) (due := s.lc.due) (fun _ => hs) id)
  | holdRelease =>
    refine L.arbiter (linkInv_ownHold h (flag := false) (pulse := 0) (fun ho => ?_) fun hd => ?_)
    · simp at ho
    · rw [hd]; rfl
  | clearStats => exact L.moves s s.lc.choice _ (fun _ d => by simp [Vector.getElem_replicate]) h
  | load kind index f _ hs ht =>
    rw [loadEntry_frame ht]
    exact linkInv_congr h rfl
  | slotRequest i => exact owners ((OwnersFrame.refl s).requestSlot i)
  | abortPending i => exact owners ((OwnersFrame.refl s).arriveDone i _ _).arbiter
  | rxRelease r rest => split <;> exact linkInv_congr h rfl
  | callWithdraw k => exact owners ((OwnersFrame.refl s).setCall k _).arbiter
  | oblFinish o status bytes => exact owners ((OwnersFrame.refl s).finishObl o status bytes)
  | oblDiscard o => exact owners ((OwnersFrame.refl s).freeObl o)
  | arm r => rcases s.armReaction_eq r with e | ⟨x, e⟩ <;> rw [e] <;> exact linkInv_congr h rfl
  | disarm r => rcases s.disarmReaction_eq r with e | ⟨x, e⟩ <;> rw [e] <;> exact linkInv_congr h rfl
  | force r hs ha => exact L.tasksKept.force s r hs ha h
  | trainStop g => rcases stopTrain_frame s g with e | ⟨x, e⟩ <;> rw [e] <;> exact linkInv_congr h rfl
  | outputWrite lines levels =>
    rw [writeOutputs_frame]
    exact linkInv_congr h rfl
  | _ => exact linkInv_congr h rfl

theorem PortStep.linkInv {s t : State} (ht : PortStep s t) (h : s.LinkInv) : t.LinkInv := by
  rcases ht.hp_or_reset with ⟨x, rfl⟩ | ⟨held, hcsLow, x, rfl⟩
  · exact linkInv_congr h rfl
  · exact linkInv_congr linkInv_reset rfl

/-- Every part of a row keeps link state, phase, condition and frame fitting each other. -/
theorem rowsKept_linkInv : RowsKept State.LinkInv :=
  have L := linkPred_linkInv
  { port := fun _ _ ht h => ht.linkInv h
    command := command_keeps L.tasksKept (fun _ _ ht h => ht.linkInv h) (fun _ _ h => linkInv_congr h rfl)
      fun _ _ ht h => ht.linkInv h
    stale := fun _ _ _ _ h => linkInv_due h fun hd => by rw [hd]; rfl
    carry := fun s e _ he h => by
      refine linkInv_carryOut (linkInv_due h fun hd => by rw [hd]; rfl) ?_
      cases e <;> exact he
    sof := fun _ _ hc h => linkInv_driveSof h hc
    edge := L.edgeInput
    timer := L.expireTimer
    lead := L.leadTrain
    trail := L.trailTrain
    call := L.expireCall
    tick := fun _ _ h => linkInv_congr h rfl
    readBit := fun _ level hp _ h => linkInv_readBit h hp level }

end Sys2Proof.Machine
end

section
/-! SUPPORT. The account of a call: every enrolled station is in exactly one of the three lists (R84, R86, R89). -/

namespace Sys2Proof.Machine

/-! ## One entry -/

namespace CallEntry.AccountInv
variable {e x : CallEntry} (h : e.AccountInv)
include h

/-- Only the lists and the state matter. -/
theorem congr (hl : x.enrolled = e.enrolled ∧ x.outstanding = e.outstanding ∧ x.results = e.results
      ∧ x.unanswered = e.unanswered)
    (ho : x.state ≠ .opened → x.state ≠ .withdrawing → e.outstanding = [])
    (hf : x.state = .free ∨ x.state = .reserved → e.enrolled = []) : x.AccountInv := by
  obtain ⟨henr, hout, hres, hun⟩ := hl
  refine ⟨?_, henr ▸ h.enrolled_ascending, hun ▸ h.unanswered_ascending, ?_, ?_⟩
  · rw [CallEntry.account, henr, hout, hres, hun]
    exact h.account
  · rw [hout]; exact ho
  · rw [henr]; exact hf

/-- The same, the state left as it is. -/
theorem congr_state (hl : x.enrolled = e.enrolled ∧ x.outstanding = e.outstanding ∧ x.results = e.results
      ∧ x.unanswered = e.unanswered) (hs : x.state = e.state) : x.AccountInv :=
  h.congr hl (hs ▸ h.outstanding_open) (hs ▸ h.free_empty)

/-- No station stands twice in the account. -/
theorem nodup : e.account.Nodup :=
  h.account.nodup_iff.mpr (h.enrolled_ascending.imp fun {a b} (hlt : a < b) (he : a = b) =>
    BitVec.lt_irrefl b (he ▸ hlt))

/-- A settlement that gives up the stations still outstanding (R86, R87). -/
theorem givenUp (hx : x.enrolled = e.enrolled ∧ x.outstanding = [] ∧ x.results = e.results
      ∧ x.unanswered = insertStations e.outstanding e.unanswered) (hs : x.state = .settled) : x.AccountInv := by
  obtain ⟨henr, hout, hres, hun⟩ := hx
  obtain ⟨hfirst, -, hdisj⟩ := List.nodup_append.mp h.nodup
  obtain ⟨hnodup, -, -⟩ := List.nodup_append.mp hfirst
  have hnew : ∀ y ∈ e.outstanding, y ∉ e.unanswered := fun y hy hu =>
    hdisj y (List.mem_append_left _ hy) y hu rfl
  refine ⟨?_, henr ▸ h.enrolled_ascending, ?_, fun _ _ => hout, fun hf => ?_⟩
  · rw [CallEntry.account, henr, hout, hres, hun, List.nil_append]
    calc e.results.map CallResult.station ++ insertStations e.outstanding e.unanswered
      List.Perm _ (e.results.map CallResult.station ++ (e.outstanding ++ e.unanswered)) :=
        (insertStations_perm hnodup hnew).append_left _
      List.Perm _ e.account := by
        unfold CallEntry.account
        rw [← List.append_assoc]
        exact List.perm_append_comm.append_right _
      List.Perm _ e.enrolled := h.account
  · rw [hun]
    exact insertStations_pairwise _ h.unanswered_ascending
  · rw [hs] at hf
    rcases hf with hf | hf <;> cases hf

/-- A result collected from a station that was outstanding (R94). -/
theorem collected {y : CallResult} (hy : y.station ∈ e.outstanding)
    (hx : x.enrolled = e.enrolled ∧ x.outstanding = e.outstanding.erase y.station ∧ x.results = e.results ++ [y]
      ∧ x.unanswered = e.unanswered)
    (hs : x.state = e.state) (ho : e.state = .opened ∨ e.state = .withdrawing) : x.AccountInv := by
  obtain ⟨henr, hout, hres, hun⟩ := hx
  refine ⟨?_, henr ▸ h.enrolled_ascending, hun ▸ h.unanswered_ascending, fun ha hb => ?_, fun hf => ?_⟩
  · rw [CallEntry.account, henr, hout, hres, hun, List.map_append]
    refine List.Perm.trans (List.Perm.append_right _ ?_) h.account
    calc e.outstanding.erase y.station ++ (e.results.map CallResult.station ++ [y.station])
      List.Perm _ ([y.station] ++ (e.outstanding.erase y.station ++ e.results.map CallResult.station)) := by
        rw [← List.append_assoc]
        exact List.perm_append_comm
      List.Perm _ (e.outstanding ++ e.results.map CallResult.station) :=
        (List.perm_cons_erase hy).symm.append_right _
  · rw [hs] at ha hb
    exact absurd ho (not_or.mpr ⟨ha, hb⟩)
  · rw [hs] at hf
    rcases ho with ho | ho <;> rw [ho] at hf <;> simp at hf

/-- A late result from a station that was given up (R95). -/
theorem late {y : CallResult} (hy : y.station ∈ e.unanswered)
    (hx : x.enrolled = e.enrolled ∧ x.outstanding = e.outstanding ∧ x.results = e.results ++ [y]
      ∧ x.unanswered = e.unanswered.erase y.station)
    (hs : x.state = e.state) : x.AccountInv := by
  obtain ⟨henr, hout, hres, hun⟩ := hx
  refine ⟨?_, henr ▸ h.enrolled_ascending, ?_, ?_, ?_⟩
  · rw [CallEntry.account, henr, hout, hres, hun, List.map_append]
    refine List.Perm.trans ?_ h.account
    unfold CallEntry.account
    rw [List.append_assoc, List.append_assoc, List.append_assoc]
    exact ((List.perm_cons_erase hy).symm.append_left _).append_left _
  · rw [hun]
    exact h.unanswered_ascending.sublist List.erase_sublist
  · rw [hs, hout]; exact h.outstanding_open
  · rw [hs, henr]; exact h.free_empty

end CallEntry.AccountInv

/-- An entry with empty lists. -/
theorem accountInv_of_empty {e : CallEntry} (he : e.enrolled = [] ∧ e.outstanding = [] ∧ e.results = []
    ∧ e.unanswered = []) : e.AccountInv := by
  obtain ⟨henr, hout, hres, hun⟩ := he
  constructor <;> simp [CallEntry.account, henr, hout, hres, hun]

/-! ## The operations -/

theorem accountsInv_congr {s t : State} (h : s.AccountsInv) (ht : t.cu = s.cu) : t.AccountsInv := fun k => by
  unfold State.call
  rw [ht]
  exact h k

theorem accountsInv_setCall {s : State} (h : s.AccountsInv) (k : Fin 8) {x : CallEntry} (hx : x.AccountInv) :
    (s.setCall k x).AccountsInv := fun j => by
  rw [State.call_setCall]
  split
  · exact hx
  · exact h j

theorem accountsInv_arbiter {s : State} (h : s.AccountsInv) : s.arbiter.AccountsInv :=
  accountsInv_congr h s.arbiter_cu

/-- A settlement; ALL_DONE is one of an entry with nothing outstanding. -/
theorem accountsInv_settleCall {s : State} (h : s.AccountsInv) (k : Fin 8) (o : CallOutcome)
    (ho : o = .allDone → (s.call k).outstanding = []) : (s.settleCall k o).AccountsInv := by
  rw [settleCall_written]
  refine accountsInv_arbiter (accountsInv_congr (accountsInv_setCall h k ?_) rfl)
  by_cases hd : o = .allDone
  · refine (h k).congr ⟨rfl, if_pos hd, rfl, if_pos hd⟩ (fun _ _ => ho hd) fun hf => ?_
    rcases hf with hf | hf <;> cases hf
  · exact (h k).givenUp ⟨rfl, if_neg hd, rfl, if_neg hd⟩ rfl

theorem accountsInv_reserve {s : State} (h : s.AccountsInv) (i k : Fin 8) : (s.reserveCall i k).AccountsInv :=
  accountsInv_setCall h k (accountInv_of_empty ⟨rfl, rfl, rfl, rfl⟩)

theorem accountsInv_release {s : State} (h : s.AccountsInv) (k : Fin 8) : (s.releaseCall k).AccountsInv :=
  accountsInv_setCall h k (accountInv_of_empty ⟨rfl, rfl, rfl, rfl⟩)

theorem accountsInv_openCall {s : State} (h : s.AccountsInv) (k : Fin 8) (responses : List Byte) :
    (s.openCall k responses).1.AccountsInv := by
  by_cases hl : (responseLists s.lc.station responses).1 = []
  · rw [openCall_of_none hl]
    exact accountsInv_settleCall (accountsInv_setCall h k (accountInv_of_empty ⟨hl, hl, rfl, rfl⟩)) k _
      fun hn => nomatch hn
  · rw [openCall_of_enrolled hl]
    refine accountsInv_setCall h k ⟨?_, (listsRead_responseLists _ _).enrolled_ascending, List.Pairwise.nil,
      fun hn => absurd rfl hn, fun hf => ?_⟩
    · simp [CallEntry.account, CallEntry.listed]
    · rcases hf with hf | hf <;> cases hf

theorem accountsInv_newRequest {s t : State} {i : Fin 8} (h : s.AccountsInv) (ht : s.newRequest i = some t) :
    t.AccountsInv := by
  unfold State.newRequest at ht
  split at ht
  · cases ht
    exact accountsInv_arbiter (accountsInv_congr h rfl)
  · split at ht <;> cases ht
    exact accountsInv_arbiter (accountsInv_congr (accountsInv_reserve h _ _) rfl)

theorem accountsInv_requestSlot {s : State} (h : s.AccountsInv) (i : Fin 8) : (s.requestSlot i).1.AccountsInv := by
  unfold State.requestSlot
  split
  iterate 2 exact h
  · exact accountsInv_congr h rfl
  all_goals
    split
    next ht => exact accountsInv_newRequest h ht
    · exact h

theorem accountsInv_arriveDone {s : State} (h : s.AccountsInv) (i : Fin 8) (d : DoneState) (l : List Byte) :
    (s.arriveDone i d l).1.AccountsInv := by
  have hend (t : State) (ht : t.AccountsInv) : (t.endBinding i d l).1.AccountsInv := by
    unfold State.endBinding
    split
    · split
      · exact accountsInv_openCall ht _ l
      · exact accountsInv_congr (accountsInv_release ht _) rfl
    · exact ht
  have hrerun (t : State) (ht : t.AccountsInv) : (t.applyRerun i).AccountsInv := by
    unfold State.applyRerun
    split
    · split
      next hu => exact accountsInv_newRequest ht hu
      · exact accountsInv_congr ht rfl
    · exact ht
  exact hrerun _ (hend _ (accountsInv_congr h rfl))

/-- A slot written, and then its arrival at a done state. -/
theorem accountsInv_setSlot_arriveDone {s : State} (h : s.AccountsInv) (i : Fin 8) (x : Slot) (d : DoneState) (l : List Byte) :
    ((s.setSlot i x).arriveDone i d l).1.AccountsInv :=
  accountsInv_arriveDone (s := s.setSlot i x) (accountsInv_congr h rfl) i d l

theorem accountsInv_slotOutcome {s : State} (h : s.AccountsInv) (i : Fin 8) (c : TxCode) (l : List Byte) :
    (s.slotOutcome i c l).1.AccountsInv := by
  have arrive (x : Slot) (d : DoneState) (l : List Byte) : ((s.setSlot i x).arriveDone i d l).1.AccountsInv :=
    accountsInv_setSlot_arriveDone h i x d l
  have back (x : Slot) : (s.returnPending i x).1.AccountsInv := accountsInv_arbiter (accountsInv_congr h rfl)
  unfold State.slotOutcome
  dsimp only
  split
  · exact arrive _ _ _
  iterate 2
    · split
      · exact arrive _ _ _
      · exact back _
  all_goals
    split
    · exact arrive _ _ _
    · split
      · exact arrive _ _ _
      · exact back _

theorem accountsInv_withdrawOutcome {s : State} (h : s.AccountsInv) (k : Fin 8) (c : TxCode) :
    (s.withdrawOutcome k c).1.AccountsInv := by
  have attempt (n : Nat) : (s.setCall k { s.call k with withdrawAttempts := n }).AccountsInv :=
    accountsInv_setCall h k ((h k).congr_state ⟨rfl, rfl, rfl, rfl⟩ rfl)
  unfold State.withdrawOutcome
  split
  · exact accountsInv_settleCall h k _ fun hn => nomatch hn
  iterate 2 exact h
  all_goals
    dsimp only
    split
    · exact accountsInv_settleCall (attempt _) k _ fun hn => nomatch hn
    · exact attempt _

theorem doneOutcome_cu (s : State) (o : Fin 8) (c : TxCode) : (s.doneOutcome o c).cu = s.cu := by
  cases c
  case ok | lost | hold => rfl
  all_goals
    simp only [State.doneOutcome]
    split <;> rfl

theorem accountsInv_handInFlight {s : State} (h : s.AccountsInv) (c : TxCode) (l : List Byte) :
    (s.handInFlight c l).1.AccountsInv := by
  have landed : (s.setLc { s.lc with inFlight := none }).AccountsInv := accountsInv_congr h rfl
  unfold State.handInFlight State.handOutcome
  split
  · dsimp only
    split
    · exact accountsInv_slotOutcome landed _ c l
    · exact accountsInv_congr landed (doneOutcome_cu _ _ c)
    · exact accountsInv_withdrawOutcome landed _ c
  · exact h

theorem accountsInv_collectDone {s : State} (h : s.AccountsInv) (k : Fin 8) (x : RxFrame)
    (ho : (s.call k).state = .opened ∨ (s.call k).state = .withdrawing) (hx : x.source ∈ (s.call k).outstanding) :
    (s.collectDone k x).1.AccountsInv := by
  have collected := accountsInv_setCall h k ((h k).collected (y := x.result false s.now) hx
    (x := { s.call k with
      results := (s.call k).results ++ [x.result false s.now]
      outstanding := (s.call k).outstanding.erase x.source }) ⟨rfl, rfl, rfl, rfl⟩ rfl ho)
  unfold State.collectDone
  dsimp only
  split
  next hempty => exact accountsInv_settleCall collected _ _ fun _ => List.isEmpty_iff.mp hempty
  · exact collected

theorem accountsInv_lateDone {s : State} (h : s.AccountsInv) (k : Fin 8) (x : RxFrame)
    (hx : x.source ∈ (s.call k).unanswered) : (s.lateDone k x).AccountsInv :=
  accountsInv_congr (accountsInv_setCall h k ((h k).late (y := x.result true s.now) hx
    (x := { s.call k with
      results := (s.call k).results ++ [x.result true s.now]
      unanswered := (s.call k).unanswered.erase x.source }) ⟨rfl, rfl, rfl, rfl⟩ rfl)) rfl

theorem accountsInv_doneArrival {s : State} (h : s.AccountsInv) (x : RxFrame) : (s.doneArrival x).1.AccountsInv := by
  unfold State.doneArrival
  dsimp only
  split
  next hc => exact accountsInv_collectDone h _ x hc.2.1 hc.2.2
  · split
    next hl => exact accountsInv_lateDone h _ x hl.2.2.2
    · exact accountsInv_congr h rfl

/-! ## Operations that leave the Call Unit as it is -/

theorem releaseVerdict_cu (s : State) : s.releaseVerdict.cu = s.cu := by
  rcases s.releaseVerdict_eq with e | ⟨o, -, e⟩ <;> rw [e]
  rfl

theorem takeVerdict_cu (s : State) (tag : CallTag) (topic : Topic) (f : Fin 16) :
    (s.takeVerdict tag topic f).1.cu = s.cu := by
  unfold State.takeVerdict
  split
  · rfl
  · split
    · unfold State.reserveObl State.supersede
      split <;> rfl
    · rfl

theorem openObligation_cu (s : State) : s.openObligation.1.cu = s.cu := by
  unfold State.openObligation
  split
  · split <;> rfl
  · exact releaseVerdict_cu s

theorem withdrawArrival_cu (s : State) (x : RxFrame) : (s.withdrawArrival x).1.cu = s.cu := by
  unfold State.withdrawArrival
  split
  · split
    · rfl
    · exact State.arbiter_cu _
  · rfl

theorem countAttempt_cu (s : State) (c : TxCode) : (s.countAttempt c).cu = s.cu := by
  cases c <;> rfl

theorem afterAttempt_cu (s : State) (c : TxCode) : (s.afterAttempt c).cu = s.cu := by
  cases c
  case ok | lost | hold => rfl
  all_goals
    simp only [State.afterAttempt]
    split <;> rfl

theorem countReceive_cu (s : State) (c : RxCode) : (s.countReceive c).cu = s.cu := by
  cases c <;> rfl

theorem reachEod_cu (s : State) : s.reachEod.cu = s.cu := by
  unfold State.reachEod
  split
  · rfl
  · split
    · split
      · rfl
      · exact takeVerdict_cu _ _ _ _
    · rfl

/-! ## Rows -/

theorem fire_cu (s : State) (r : Fin 24) : (s.fire r).state.cu = (s.perform r).state.cu := by
  unfold State.fire State.noteRefusal
  dsimp only
  split <;> rfl

theorem Acts.accountsInv {s t : State} {r : Fin 24} (ht : Acts s r t) (h : s.AccountsInv) : t.AccountsInv := by
  cases ht with
  | send i => exact accountsInv_requestSlot h i
  | timerStart t parameter =>
    obtain ⟨x, hx⟩ := actTimerStart_frame s t parameter
    rw [hx]
    exact accountsInv_congr h rfl
  | trainStop g => rcases stopTrain_frame s g with e | ⟨x, e⟩ <;> rw [e] <;> exact accountsInv_congr h rfl
  | arm q => rcases s.armReaction_eq q with e | ⟨x, e⟩ <;> rw [e] <;> exact accountsInv_congr h rfl
  | disarm q => rcases s.disarmReaction_eq q with e | ⟨x, e⟩ <;> rw [e] <;> exact accountsInv_congr h rfl
  | finish o status ho => exact accountsInv_arbiter (accountsInv_congr h rfl)
  | holdPulse parameter hs => exact accountsInv_arbiter (accountsInv_congr h rfl)
  | _ => exact accountsInv_congr h rfl

theorem accountsInv_fire {s : State} (r : Fin 24) (h : s.AccountsInv) : (s.fire r).state.AccountsInv :=
  accountsInv_congr ((acts_perform s r).accountsInv h) (fire_cu s r)

theorem tasksKept_accounts : TasksKept State.AccountsInv where
  free _ _ h := accountsInv_congr h rfl
  fire _ r _ _ h := accountsInv_fire r h
  suppress _ _ _ _ h := accountsInv_congr h rfl
  matchFrame s x h := by
    rw [matchFrame_frame]
    exact accountsInv_congr h rfl
  openObligation s h := accountsInv_congr h (openObligation_cu s)
  doneArrival _ x h := accountsInv_doneArrival h x
  withdrawArrival s x h := accountsInv_congr h (withdrawArrival_cu s x)
  choose _ h := accountsInv_arbiter h
  count s c k e h := by
    unfold State.countEdge
    dsimp only
    split
    · exact accountsInv_congr h rfl
    · exact h

theorem accountsInv_carryOut {s : State} (e : LineEvent) (h : s.AccountsInv) : (s.carryOut e).AccountsInv := by
  have T := tasksKept_accounts
  have ripen {t : State} (ht : t.AccountsInv) : t.ripen.AccountsInv := accountsInv_congr ht rfl
  cases e with
  | attemptSettled c =>
    refine ripen (T.settleTasks _ _ (accountsInv_congr (accountsInv_handInFlight h c s.responseList) ?_))
    rw [afterAttempt_cu, countAttempt_cu]
  | receiveError c => exact accountsInv_congr h ((releaseVerdict_cu _).trans (countReceive_cu s c))
  | eodPoint => exact accountsInv_congr h (reachEod_cu s)
  | crowded => exact accountsInv_congr h (releaseVerdict_cu s)
  | frameEnd =>
    simp only [State.carryOut, State.endFrame]
    split
    · exact h
    · exact ripen (T.settleTasks _ _ (accountsInv_congr h rfl))
  | recoveryGap => exact ripen (accountsInv_arbiter (accountsInv_congr h rfl))
  | integration => exact ripen (accountsInv_arbiter (accountsInv_congr h rfl))
  | holdDetected =>
    exact T.settleTasks _ _ (accountsInv_congr (accountsInv_handInFlight h .hold []) (releaseVerdict_cu _))
  | persistenceMark =>
    simp only [State.carryOut, State.markPersistence]
    exact T.settleTasks _ _ (accountsInv_congr h rfl)
  | holdEnded => exact ripen (T.settleTasks _ _ (accountsInv_congr h rfl))
  | pulseEnds => exact ripen (accountsInv_arbiter (accountsInv_congr h rfl))
  | _ => exact accountsInv_congr h rfl

theorem accountsInv_leave {s : State} (hs : s.lc.state ≠ .config) (ho : s.lc.state ≠ .offline)
    (h : s.AccountsInv) : (takeLeave s).state.AccountsInv := by
  have fold {α : Type} (f : State × List Occurrence → α → State × List Occurrence)
      (hf : ∀ p a, p.1.AccountsInv → (f p a).1.AccountsInv) (l : List α) (p : State × List Occurrence)
      (hp : p.1.AccountsInv) : (l.foldl f p).1.AccountsInv := by
    induction l generalizing p with
    | nil => exact hp
    | cons a l ih => exact ih _ (hf p a hp)
  have slots (p : State × List Occurrence) (i : Fin 8) (hp : p.1.AccountsInv) : (leaveSlot p i).1.AccountsInv := by
    unfold leaveSlot
    dsimp only
    split
    iterate 2 exact accountsInv_setSlot_arriveDone hp i _ _ _
    all_goals exact hp
  have calls (p : State × List Occurrence) (k : Fin 8) (hp : p.1.AccountsInv) : (leaveCall p k).1.AccountsInv := by
    unfold leaveCall
    split
    iterate 2 exact accountsInv_settleCall hp k _ fun hn => nomatch hn
    all_goals exact hp
  have obls (t : State) (o : Fin 8) (ht : t.AccountsInv) : (leaveObl t o).AccountsInv := by
    unfold leaveObl
    split
    · exact ht
    · exact accountsInv_congr ht rfl
  have all (l : List (Fin 8)) : ((l.foldl leaveObl (l.foldl leaveCall
      ((l.foldl leaveSlot (s.setLc s.lc.left, [])).1, [])).1).setVerdict none).AccountsInv :=
    accountsInv_congr (foldl_keeps leaveObl obls l _ (fold leaveCall calls l (_, []) (fold leaveSlot slots l
      (s.setLc s.lc.left, []) (accountsInv_congr h rfl)))) rfl
  rw [takeLeave_of_joined hs ho]
  exact all _

theorem Took.accountsInv {s t : State} (ht : Took s t) (h : s.AccountsInv) : t.AccountsInv := by
  have same {u : State} (hu : u.cu = s.cu) : u.AccountsInv := accountsInv_congr h hu
  cases ht with
  | joinConfig => rw [applyImage_frame]; exact same rfl
  | leave hs ho => exact accountsInv_leave hs ho h
  | holdAssert => exact accountsInv_arbiter (same rfl)
  | holdRelease => exact accountsInv_arbiter (same rfl)
  | load kind index f _ hs ht => rw [loadEntry_frame ht]; exact same rfl
  | slotRequest i => exact accountsInv_requestSlot h i
  | abortPending i => exact accountsInv_arbiter (accountsInv_arriveDone h i _ _)
  | rxRelease r rest => split <;> exact same rfl
  | callWithdraw k hk =>
    refine accountsInv_arbiter (accountsInv_setCall h k ((h k).congr ⟨rfl, rfl, rfl, rfl⟩
      (fun _ hw => absurd rfl hw) fun hf => ?_))
    rcases hf with hf | hf <;> cases hf
  | callClear k => exact accountsInv_release h k
  | oblFinish o => exact accountsInv_arbiter (same rfl)
  | oblDiscard o => exact accountsInv_arbiter (same rfl)
  | arm r => rcases s.armReaction_eq r with e | ⟨x, e⟩ <;> rw [e] <;> exact same rfl
  | disarm r => rcases s.disarmReaction_eq r with e | ⟨x, e⟩ <;> rw [e] <;> exact same rfl
  | force r hs ha => exact tasksKept_accounts.force s r hs ha h
  | trainStop g => rcases stopTrain_frame s g with e | ⟨x, e⟩ <;> rw [e] <;> exact same rfl
  | outputWrite lines levels => rw [writeOutputs_frame]; exact same rfl
  | _ => exact same rfl

theorem accountsInv_reset : State.reset.AccountsInv := fun k => by
  have hk : State.reset.call k = CallEntry.freeWith 0 := by simp [State.reset, State.call]
  rw [hk]
  exact accountInv_of_empty ⟨rfl, rfl, rfl, rfl⟩

theorem PortStep.accountsInv {s t : State} (ht : PortStep s t) (h : s.AccountsInv) : t.AccountsInv := by
  rcases ht.hp_or_reset with ⟨x, rfl⟩ | ⟨held, hcsLow, x, rfl⟩
  · exact accountsInv_congr h rfl
  · exact accountsInv_congr accountsInv_reset rfl

theorem accountInv_tick {e : CallEntry} (h : e.AccountInv) : e.tick.AccountInv := by
  unfold CallEntry.tick
  split
  · split
    · exact h.congr_state ⟨rfl, rfl, rfl, rfl⟩ rfl
    · split <;> exact h.congr_state ⟨rfl, rfl, rfl, rfl⟩ rfl
  · exact h

theorem accountsInv_tick {s : State} (inputs : Byte) (h : s.AccountsInv) : (s.tick inputs).AccountsInv := by
  by_cases hh : s.lc.held = true
  · exact accountsInv_congr h (if_pos hh)
  · intro k
    have : (s.tick inputs).call k = (s.call k).tick := by simp [State.call, State.tick, hh]
    rw [this]
    exact accountInv_tick (h k)

theorem accountsInv_expired {s : State} (h : s.AccountsInv) (k : Fin 8) :
    ((s.setCall k { s.call k with remaining := 0, fraction := 0 }).settleCall k .expired).AccountsInv := by
  refine accountsInv_settleCall (accountsInv_setCall h k ?_) k _ fun hn => nomatch hn
  exact (h k).congr_state ⟨rfl, rfl, rfl, rfl⟩ rfl

theorem rowsKept_accounts : RowsKept State.AccountsInv where
  port _ _ ht h := ht.accountsInv h
  command := command_keeps tasksKept_accounts (fun _ _ ht h => ht.accountsInv h)
    (fun _ _ h => accountsInv_congr h rfl) fun _ _ ht h => ht.accountsInv h
  stale _ _ _ _ h := accountsInv_congr h rfl
  carry _ e _ _ h := accountsInv_carryOut e (accountsInv_congr h rfl)
  sof s c _ h := by rw [driveSof_frame]; exact accountsInv_congr h rfl
  edge := edgeInput_keeps tasksKept_accounts fun _ _ h => accountsInv_congr h rfl
  timer := expireTimer_keeps tasksKept_accounts fun _ _ h => accountsInv_congr h rfl
  lead := leadTrain_keeps tasksKept_accounts (fun _ _ h => accountsInv_congr h rfl)
    fun _ _ h => accountsInv_congr h rfl
  trail := trailTrain_keeps tasksKept_accounts (fun _ _ h => accountsInv_congr h rfl)
    fun _ _ h => accountsInv_congr h rfl
  call := expireCall_keeps tasksKept_accounts fun _ k _ h => accountsInv_expired h k
  tick _ inputs h := accountsInv_tick inputs h
  readBit s level _ _ h := by
    unfold State.readBit State.ripenIdle
    split <;> exact accountsInv_congr h rfl

end Sys2Proof.Machine
end

section
/-! SUPPORT. Budgets of reactions (R141), and properties that rest on one already kept. -/

namespace Sys2Proof.Machine

/-! ## A property kept where another one holds -/

/-- `RowsKept` for `P`, where `J`, which every row keeps, may be used. -/
structure RowsKeptWith (J P : State → Prop) : Prop where
  port : ∀ s t, PortStep s t → J s → P s → P t
  command : ∀ c s, J s → P s → P (s.hostCommand c (takenBy c))
  stale : ∀ s e, e ∈ s.lc.due → s.lc.permits e = false → J s → P s →
    P (s.setLc { s.lc with due := s.lc.due.erase e })
  carry : ∀ s e, e ∈ s.lc.due → s.lc.permits e = true → J s → P s →
    P ((s.setLc { s.lc with due := s.lc.due.erase e }).carryOut e)
  sof : ∀ s c, s.sofReady = some c → J s → P s → P (s.driveSof c)
  edge : ∀ s k, J s → P s → P (State.edgeInput s k)
  timer : ∀ s t, J s → P s → P (State.expireTimer s t)
  lead : ∀ s g, J s → P s → P (State.leadTrain s g)
  trail : ∀ s g, J s → P s → P (State.trailTrain s g)
  call : ∀ s k, J s → P s → P (State.expireCall s k)
  tick : ∀ s inputs, J s → P s → P (State.tick s inputs)
  readBit : ∀ s level, s.lc.phase ≠ .out → s.lc.due = [] → J s → P s → P (State.readBit s level)

theorem RowsKeptWith.and {J P : State → Prop} (K : RowsKeptWith J P) (H : RowsKept J) :
    RowsKept fun s => J s ∧ P s where
  port s t ht h := ⟨H.port s t ht h.1, K.port s t ht h.1 h.2⟩
  command c s h := ⟨H.command c s h.1, K.command c s h.1 h.2⟩
  stale s e hm hp h := ⟨H.stale s e hm hp h.1, K.stale s e hm hp h.1 h.2⟩
  carry s e hm hp h := ⟨H.carry s e hm hp h.1, K.carry s e hm hp h.1 h.2⟩
  sof s c hc h := ⟨H.sof s c hc h.1, K.sof s c hc h.1 h.2⟩
  edge s k h := ⟨H.edge s k h.1, K.edge s k h.1 h.2⟩
  timer s t h := ⟨H.timer s t h.1, K.timer s t h.1 h.2⟩
  lead s g h := ⟨H.lead s g h.1, K.lead s g h.1 h.2⟩
  trail s g h := ⟨H.trail s g h.1, K.trail s g h.1 h.2⟩
  call s k h := ⟨H.call s k h.1, K.call s k h.1 h.2⟩
  tick s inputs h := ⟨H.tick s inputs h.1, K.tick s inputs h.1 h.2⟩
  readBit s level hp hd h := ⟨H.readBit s level hp hd h.1, K.readBit s level hp hd h.1 h.2⟩

/-- Where a line event is permitted, the station is on the line. -/
theorem State.LinkInv.onBus_of_permits {s : State} (h : s.LinkInv) {e : LineEvent} (he : s.lc.permits e = true) :
    ¬ s.offBus := by
  have phase (p : BusPhase) (hp : p ≠ .out) (hs : s.lc.phase = p) : ¬ s.offBus := h.onBus (hs.trans_ne hp)
  have state (hs : s.lc.state = .integrating ∨ s.lc.state = .active ∨ s.lc.state = .quiet) : ¬ s.offBus :=
    onBus_of_state hs
  cases e <;> simp only [LinkController.permits, Bool.and_eq_true, beq_iff_eq, bne_iff_ne] at he
  case attemptSettled => exact state (.inr (.inl (h.flight_active he).1))
  case peerSof => exact phase _ (by decide) he
  case recoveryGap => exact phase _ (by decide) he
  case integration => exact state (.inl he.1)
  case holdDetected => exact h.onBus he.2
  case persistenceMark | holdEnded => exact phase _ (by decide) he
  case pulseEnds => exact state (.inr (.inl (h.own_hold_active (by simp [State.ownHold, he]))))
  case quietEnds => exact state (.inr (.inr he))
  case frameEnd => exact phase _ (by decide) he.1
  all_goals exact phase _ (by decide) he

theorem joined_of_onBus {s : State} (h : ¬ s.offBus) : s.lc.state ≠ .config := fun hs => h (.inl hs)

/-! ## Budgets -/

/-- What remains of a budget, and the arm state, fit each other (R141). -/
def ReactionRun.Budgeted (x : ReactionRun) (budget : Nat) : Prop :=
  x.remaining ≤ budget ∧ (x.arm = .spent ↔ budget ≠ 0 ∧ x.remaining = 0)

/-- Every budget is in order. -/
def State.Budgets (s : State) : Prop := ∀ r, (s.run r).Budgeted (s.reaction r).budget

theorem budgetInv_iff (s : State) : s.BudgetInv ↔ s.lc.state = .config ∨ s.Budgets :=
  ⟨fun h => (em (s.lc.state = .config)).imp_right fun hs => h hs, fun h hs => h.resolve_left hs⟩

theorem budgets_congr {s t : State} (h : s.Budgets) (hruns : t.re.runs = s.re.runs)
    (hdefs : t.re.defs = s.re.defs) : t.Budgets := by
  intro r
  unfold State.run State.reaction
  rw [hruns, hdefs]
  exact h r

theorem budgets_same {s t : State} (h : s.Budgets) (hre : t.re = s.re) : t.Budgets :=
  budgets_congr h (by rw [hre]) (by rw [hre])

theorem budgets_owners {s t : State} (hf : OwnersFrame s t) (h : s.Budgets) : t.Budgets := budgets_same h hf.re

/-- One entry's run state is written. -/
theorem budgets_setRun {s : State} (h : s.Budgets) (r : Fin 24) {x : ReactionRun}
    (hx : x.Budgeted (s.reaction r).budget) : (s.setRun r x).Budgets := by
  intro q
  rw [State.run_setRun]
  split
  next he => rw [he]; exact hx
  · exact h q

/-- An entry that is not SPENT may be armed and disarmed at will. -/
theorem budgeted_move {x : ReactionRun} {budget : Nat} (h : x.Budgeted budget) (hx : x.arm ≠ .spent) {a : ArmState}
    (ha : a ≠ .spent) : { x with arm := a }.Budgeted budget :=
  ⟨h.1, fun hs => absurd hs ha, fun hb => absurd (h.2.mpr hb) hx⟩

theorem budgets_arm {s : State} (h : s.Budgets) (r : Fin 24) : (s.armReaction r).Budgets := by
  unfold State.armReaction
  split
  next ha => exact budgets_setRun h r (budgeted_move (h r) (by simp [ha]) (by simp))
  next ha => exact budgets_setRun h r ⟨Nat.le_refl _, fun hx => (nomatch hx), fun hb => absurd hb.2 hb.1⟩
  · exact h

theorem budgets_disarm {s : State} (h : s.Budgets) (r : Fin 24) : (s.disarmReaction r).Budgets := by
  unfold State.disarmReaction
  split
  next ha => exact budgets_setRun h r (budgeted_move (h r) (by simp [ha]) (by simp))
  all_goals exact h

theorem Acts.budgets {s t : State} {r : Fin 24} (ht : Acts s r t) (h : s.Budgets) : t.Budgets := by
  have same {u : State} (hre : u.re = s.re) : u.Budgets := budgets_same h hre
  cases ht with
  | send i => exact budgets_owners ((OwnersFrame.refl s).requestSlot i) h
  | timerStart t parameter =>
    obtain ⟨x, hx⟩ := actTimerStart_frame s t parameter
    rw [hx]
    exact same rfl
  | trainStop g => rcases stopTrain_frame s g with e | ⟨x, e⟩ <;> rw [e] <;> exact same rfl
  | arm q => exact budgets_arm h q
  | disarm q => exact budgets_disarm h q
  | finish o status ho => exact budgets_owners ((OwnersFrame.refl s).finishObl o status []) h
  | holdPulse parameter hs => exact budgets_owners (OwnersFrame.refl _).arbiter (same rfl)
  | notify code =>
    exact budgets_congr (budgets_setRun h r (x := { s.run r with lastNotice := code }) (h r)) rfl rfl
  | _ => exact same rfl

theorem noteRefusal_frame (s : State) (r : Fin 24) (x : ActionResult) :
    (s.noteRefusal r x).re.runs = s.re.runs ∧ (s.noteRefusal r x).re.defs = s.re.defs := by
  cases x <;> exact ⟨rfl, rfl⟩

/-- A firing spends a limited budget, and is SPENT with it (R141). -/
theorem budgeted_fired {x : ReactionRun} {budget : Nat} (h : x.Budgeted budget) (now : Stamp)
    (result : ActionResult) : (x.fired budget now result).Budgeted budget := by
  unfold ReactionRun.fired
  dsimp only
  split
  · exact h
  next hb =>
    refine ⟨(Nat.sub_le _ _).trans h.1, ?_⟩
    by_cases hz : x.remaining - 1 = 0
    · simp [hz, hb]
    · simp only [hz, if_false, and_false, iff_false]
      exact fun hs => hz (by rw [(h.2.mp hs).2])

theorem budgets_fire {s : State} (r : Fin 24) (h : s.Budgets) : (s.fire r).state.Budgets := by
  have hperf := (acts_perform s r).budgets h
  have hdefs : (s.perform r).state.reaction r = s.reaction r := by
    unfold State.reaction
    rw [(same_perform s r).definitions]
  unfold State.fire
  dsimp only
  refine budgets_congr (budgets_setRun hperf r ?_) (noteRefusal_frame _ r _).1 (noteRefusal_frame _ r _).2
  have hr := hperf r
  rw [hdefs] at hr ⊢
  exact budgeted_fired hr _ _

theorem tasksKept_budgets : TasksKept State.Budgets where
  free _ _ h := budgets_same h rfl
  fire _ r _ _ h := budgets_fire r h
  suppress _ _ _ _ h := budgets_congr h rfl rfl
  matchFrame s x h := by rw [matchFrame_frame]; exact budgets_same h rfl
  openObligation s h := budgets_owners (OwnersFrame.refl s).openObligation h
  doneArrival s x h := budgets_owners ((OwnersFrame.refl s).doneArrival x) h
  withdrawArrival s x h := budgets_owners ((OwnersFrame.refl s).withdrawArrival x) h
  choose s h := budgets_owners (OwnersFrame.refl s).arbiter h
  count s c k e h := by
    unfold State.countEdge
    dsimp only
    split
    · exact budgets_same h rfl
    · exact h

/-! ## Budgets from JOIN on -/

/-- What two properties keep, one or the other holding. -/
theorem TasksKept.or {P Q : State → Prop} (K : TasksKept P) (H : TasksKept Q) : TasksKept fun s => P s ∨ Q s where
  free s n h := h.imp (K.free s n) (H.free s n)
  fire s r hc ha h := h.imp (K.fire s r hc ha) (H.fire s r hc ha)
  suppress s r o root h := h.imp (K.suppress s r o root) (H.suppress s r o root)
  matchFrame s x h := h.imp (K.matchFrame s x) (H.matchFrame s x)
  openObligation s h := h.imp (K.openObligation s) (H.openObligation s)
  doneArrival s x h := h.imp (K.doneArrival s x) (H.doneArrival s x)
  withdrawArrival s x h := h.imp (K.withdrawArrival s x) (H.withdrawArrival s x)
  choose s h := h.imp (K.choose s) (H.choose s)
  count s c k e h := h.imp (K.count s c k e) (H.count s c k e)

theorem linkPred_state (x : LinkState) : LinkPred fun s => s.lc.state = x where
  congr _ _ h ht := by rw [ht]; exact h
  moves _ _ _ _ h := h
  pulse _ _ _ h := h

/-- Entries at their initial run states have their budgets. -/
theorem budgeted_initialRun (d : ReactionDef) : d.initialRun.Budgeted d.budget := by
  refine ⟨Nat.le_refl _, fun hs => ?_, fun hb => absurd hb.2 hb.1⟩
  unfold ReactionDef.initialRun at hs
  dsimp only at hs
  split at hs <;> cases hs

/-- Entries at their initial run states are in order. -/
theorem budgets_of_initial {s t : State} (hruns : t.re.runs = Vector.ofFn fun r => (s.reaction r).initialRun)
    (hdefs : t.re.defs = s.re.defs) : t.Budgets := by
  intro r
  have hrun : t.run r = (s.reaction r).initialRun := by
    unfold State.run
    rw [hruns]
    exact Vector.getElem_ofFn r.isLt
  have hdef : t.reaction r = s.reaction r := by
    unfold State.reaction
    rw [hdefs]
  rw [hrun, hdef]
  exact budgeted_initialRun _

theorem applyImage_re (s : State) : s.applyImage.re = s.applyReactions.re := by rw [applyImage_frame]

/-- JOIN from CONFIG gives every entry its budget (R156). -/
theorem budgets_applyImage {s t : State} (ht : t.re = s.applyImage.re) : t.Budgets := by
  rw [applyImage_re] at ht
  exact budgets_of_initial (s := s) (by simp only [ht, State.applyReactions]) (by simp only [ht, State.applyReactions])

theorem Took.budgetInv {s t : State} (ht : Took s t) (h : s.lc.state = .config ∨ s.Budgets) :
    t.lc.state = .config ∨ t.Budgets := by
  have same {u : State} (hlc : u.lc.state = s.lc.state) (hre : u.re = s.re) : u.lc.state = .config ∨ u.Budgets :=
    h.imp hlc.trans fun hb => budgets_same hb hre
  have owners {u : State} (hu : OwnersFrame s u) : u.lc.state = .config ∨ u.Budgets := same hu.linkState hu.re
  have joined (hs : s.lc.state ≠ .config) {u : State} (hu : s.Budgets → u.Budgets) :
      u.lc.state = .config ∨ u.Budgets := .inr (hu (h.resolve_left hs))
  cases ht with
  | joinConfig hs hf => exact .inr (budgets_applyImage rfl)
  | joinOffline hs => exact joined (by rw [hs]; decide) fun hb => budgets_same hb rfl
  | leave hs ho => exact joined hs fun hb => budgets_same hb (ownersFrame_takeLeave hs ho).re
  | holdAssert => exact same (linkPred_state s.lc.state |>.arbiter rfl) (OwnersFrame.refl _).arbiter.re
  | holdRelease => exact same (linkPred_state s.lc.state |>.arbiter rfl) (OwnersFrame.refl _).arbiter.re
  | load kind index f _ hs ht => rw [loadEntry_frame ht]; exact .inl hs
  | slotRequest i => exact owners ((OwnersFrame.refl s).requestSlot i)
  | abortPending i => exact owners ((OwnersFrame.refl s).arriveDone i _ _).arbiter
  | rxRelease r rest => split <;> exact same rfl rfl
  | callWithdraw k => exact owners ((OwnersFrame.refl s).setCall k _).arbiter
  | oblFinish o status bytes => exact owners ((OwnersFrame.refl s).finishObl o status bytes)
  | oblDiscard o => exact owners ((OwnersFrame.refl s).freeObl o)
  | arm r hs => exact joined hs fun hb => budgets_arm hb r
  | disarm r hs => exact joined hs fun hb => budgets_disarm hb r
  | force r hs ha => exact joined hs fun hb => tasksKept_budgets.force s r hs ha hb
  | trainStop g => rcases stopTrain_frame s g with e | ⟨x, e⟩ <;> rw [e] <;> exact same rfl rfl
  | outputWrite lines levels => rw [writeOutputs_frame]; exact same rfl rfl
  | emptyNotices => exact h.imp id fun hb => budgets_congr hb rfl rfl
  | _ => exact same rfl rfl

/-- The two cases of the budgets' invariant. -/
def State.ConfigOrBudgets (s : State) : Prop := s.lc.state = .config ∨ s.Budgets

theorem rowsKept_budgets : RowsKept fun s => s.LinkInv ∧ s.ConfigOrBudgets := by
  have L := linkPred_state .config
  have T := tasksKept_budgets
  have port {s t : State} (ht : PortStep s t) (h : s.ConfigOrBudgets) : t.ConfigOrBudgets := by
    rcases ht.hp_or_reset with ⟨x, rfl⟩ | ⟨held, hcsLow, x, rfl⟩
    · exact h
    · exact .inl rfl
  refine RowsKeptWith.and ?_ rowsKept_linkInv
  exact
    { port := fun s t ht _ h => port ht h
      command := fun c s _ h => command_keeps (L.tasksKept.or T) (fun s t ht h => port ht h) (fun _ _ h => h)
        (fun s t ht h => ht.budgetInv h) c s h
      stale := fun _ _ _ _ _ h => h
      carry := fun s e _ he hl h => .inr (carryOut_keeps T (fun _ _ hf hb => budgets_owners hf hb) (fun _ _ hb => hb) _ e
        (h.resolve_left (joined_of_onBus (hl.onBus_of_permits he))))
      sof := fun s c _ _ h => by rw [driveSof_frame]; exact h
      edge := fun s k _ h => h.imp (L.edgeInput s k) (edgeInput_keeps T (fun _ _ hb => hb) s k)
      timer := fun s t _ h => h.imp (L.expireTimer s t) (expireTimer_keeps T (fun _ _ hb => hb) s t)
      lead := fun s g _ h => h.imp (L.leadTrain s g) (leadTrain_keeps T (fun _ _ hb => hb) (fun _ _ hb => hb) s g)
      trail := fun s g _ h => h.imp (L.trailTrain s g) (trailTrain_keeps T (fun _ _ hb => hb) (fun _ _ hb => hb) s g)
      call := fun s k _ h => h.imp (L.expireCall s k) (expireCall_keeps T
        (fun s k _ hb => budgets_owners (((OwnersFrame.refl s).setCall k _).settleCall k _) hb) s k)
      tick := fun _ _ _ h => h
      readBit := fun s level _ _ hl h => by
        obtain ⟨a, b, c, d, e, f, n, q, due, hbit, -⟩ := bit_frame s.lc s.drivesHold level
        unfold State.readBit State.ripenIdle
        rw [hbit]
        split <;> exact h }

/-- Settles O57: an account is kept by what each operation makes of the three lists; a budget by what a firing, an
arming and a JOIN make of one entry, and no row but JOIN and device reset moves between CONFIG and the rest. -/
theorem stepKeepsAccountsAndBudgets : Obligations.StepKeepsAccountsAndBudgets := by
  refine ⟨fun s t h hs => rowsKept_accounts.step (fun _ _ h => accountsInv_congr h rfl) h hs,
    fun s t hl hb hs => ?_⟩
  exact (budgetInv_iff t).mpr (rowsKept_budgets.step (fun _ _ h => ⟨linkInv_congr h.1 rfl, h.2⟩)
    ⟨hl, (budgetInv_iff s).mp hb⟩ hs).2

end Sys2Proof.Machine
end

section
/-! SUPPORT. Timers, trains and the output lines that trains own (R159, R168, R176, R178, R180). -/

namespace Sys2Proof.Machine

/-! ## One timer -/

/-- A start or a stop at a positive limit (R161, R162). -/
theorem Timer.inv_moved (x : Timer) {n : Nat} (hn : 0 < n) (b : Bool) :
    { x with limit := n, running := b, count := 0, expiring := false }.Inv :=
  ⟨hn, fun _ => hn, fun _ => rfl, fun he => absurd he Bool.false_ne_true⟩

namespace Timer.Inv
variable {x : Timer} (h : x.Inv)
include h

theorem tick : x.tick.Inv := by
  unfold Timer.tick
  split
  next hr =>
    split
    next hlt =>
      refine ⟨h.limit_pos, fun _ => hlt, fun hf => absurd (hr.symm.trans hf) (by decide), fun he => ?_⟩
      have := (h.expiring_reached he).2
      exact absurd hlt (by omega)
    next hlt =>
      have := h.running_below hr
      exact ⟨h.limit_pos, h.running_below, h.stopped_zero, fun _ => ⟨hr, by dsimp only; omega⟩⟩
  · exact h

/-- A limit that does not make the timer expire (R162, R163). -/
theorem withLimit {n : Nat} (hn : 0 < n) (he : x.expiresBy n = false) : (x.withLimit n).Inv := by
  have hbelow (hr : x.running = true) : x.count < n := by simpa [Timer.expiresBy, hr] using he
  unfold Timer.withLimit
  split
  next hlt =>
    have hr := (h.expiring_reached hlt.1).1
    exact ⟨hn, fun _ => hlt.2, fun hf => absurd (hr.symm.trans hf) (by decide),
      fun he => absurd he Bool.false_ne_true⟩
  next hlt =>
    refine ⟨hn, hbelow, h.stopped_zero, fun hx => ?_⟩
    have hr := (h.expiring_reached hx).1
    have := hbelow hr
    have : ¬ x.count + 1 < n := fun hc => hlt ⟨hx, hc⟩
    exact ⟨hr, by dsimp only; omega⟩

end Timer.Inv

/-! ## One train -/

namespace Train.Inv
variable {x : Train} (h : x.Inv)
include h

/-- A part that begins anew, with at most the mark set before (R169). -/
theorem part {p : TrainPart} {n : BitVec 16} {mark : Bool} (hm : mark = true → p = .active) :
    { x with running := true, part := p, elapsed := 0, pulses := n, stopMark := mark, edgeDue := false }.Inv where
  width_pos := h.width_pos
  width_below := h.width_below
  running_elapsed _ := by
    cases p with
    | rest => exact Nat.sub_pos_of_lt h.width_below
    | active => exact h.width_pos
  idle_rest hf := nomatch hf
  mark_active hs := ⟨rfl, hm hs⟩
  edge_reached hf := nomatch hf

theorem idled : x.idled.Inv where
  width_pos := h.width_pos
  width_below := h.width_below
  running_elapsed hf := nomatch hf
  idle_rest _ := ⟨rfl, rfl⟩
  mark_active hf := nomatch hf
  edge_reached hf := nomatch hf

/-- A stop in the active part waits for its end (R171). -/
theorem marked (hr : x.running = true) (hp : x.part = .active) : { x with stopMark := true }.Inv :=
  ⟨h.width_pos, h.width_below, h.running_elapsed, h.idle_rest, fun _ => ⟨hr, hp⟩, h.edge_reached⟩

theorem tick : x.tick.Inv := by
  unfold Train.tick
  split
  next hr =>
    split
    next hlt =>
      refine ⟨h.width_pos, h.width_below, fun _ => hlt, fun hf => absurd (hr.symm.trans hf) (by decide),
        h.mark_active, fun he => ?_⟩
      have := (h.edge_reached he).2
      exact absurd hlt (by omega)
    next hlt =>
      refine ⟨h.width_pos, h.width_below, h.running_elapsed, h.idle_rest, h.mark_active, fun _ => ⟨hr, ?_⟩⟩
      have := h.running_elapsed hr
      show x.elapsed + 1 = x.partLength
      omega
  · exact h

end Train.Inv

theorem tick_line (x : Train) : x.tick.line = x.line ∧ x.tick.running = x.running ∧ x.tick.part = x.part := by
  unfold Train.tick
  split
  · split <;> exact ⟨rfl, rfl, rfl⟩
  · exact ⟨rfl, rfl, rfl⟩

/-! ## The tables -/

/-- Two states agree on timers, trains, output lines and image. -/
structure TimingFrame (s t : State) : Prop where
  timers : t.tu.timers = s.tu.timers
  trains : t.tu.trains = s.tu.trains
  outputs : t.lu.outputs = s.lu.outputs
  image : t.image = s.image

theorem OwnersFrame.timing {s t : State} (h : OwnersFrame s t) : TimingFrame s t :=
  ⟨by rw [h.tu], by rw [h.tu], by rw [h.lu], h.image⟩

/-- From JOIN on, each train owns its line and gives it its level (R176, R178, R180). -/
structure State.OutputsOn (s : State) : Prop where
  owner_iff : ∀ k g, (s.output k).owner = .train g ↔ (s.train g).line = k
  level_eq : ∀ g, (s.output (s.train g).line).level
    = ((s.output (s.train g).line).rest != ((s.train g).running && (s.train g).part == .active))

theorem timersInv_congr {s t : State} (h : s.TimersInv) (hf : t.tu.timers = s.tu.timers)
    (hi : t.image.timers = s.image.timers) : t.TimersInv where
  timers x := by
    unfold State.timer
    rw [hf]
    exact h.timers x
  image x := by rw [hi]; exact h.image x

theorem trainsInv_congr {s t : State} (h : s.TrainsInv) (hf : t.tu.trains = s.tu.trains)
    (hi : t.image.trains = s.image.trains) : t.TrainsInv where
  trains g := by
    unfold State.train
    rw [hf]
    exact h.trains g
  image g := by rw [hi]; exact h.image g

theorem outputsOn_congr {s t : State} (h : s.OutputsOn) (hg : t.tu.trains = s.tu.trains)
    (ho : t.lu.outputs = s.lu.outputs) : t.OutputsOn := by
  have htrain (g : Fin 2) : t.train g = s.train g := by unfold State.train; rw [hg]
  have hout (k : Fin 8) : t.output k = s.output k := by unfold State.output; rw [ho]
  exact ⟨fun k g => by rw [htrain, hout]; exact h.owner_iff k g, fun g => by rw [htrain, hout]; exact h.level_eq g⟩

theorem timersInv_setTimer {s : State} (h : s.TimersInv) (t : Fin 4) {x : Timer} (hx : x.Inv) :
    (s.setTimer t x).TimersInv where
  timers j := by
    rw [State.timer_setTimer]
    split
    · exact hx
    · exact h.timers j
  image := h.image

theorem trainsInv_setTrain {s : State} (h : s.TrainsInv) (g : Fin 2) {x : Train} (hx : x.Inv) :
    (s.setTrain g x).TrainsInv where
  trains j := by
    rw [State.train_setTrain]
    split
    · exact hx
    · exact h.trains j
  image := h.image

/-- A train's fields written, its line and the level that it gives left as they are. -/
theorem outputsOn_setTrain {s : State} (h : s.OutputsOn) (g : Fin 2) {x : Train} (hl : x.line = (s.train g).line)
    (ha : (x.running && x.part == .active) = ((s.train g).running && (s.train g).part == .active)) :
    (s.setTrain g x).OutputsOn where
  owner_iff k j := by
    rw [State.output_setTrain, State.train_setTrain]
    split
    next he => rw [hl, h.owner_iff, he]
    · exact h.owner_iff k j
  level_eq j := by
    rw [State.output_setTrain, State.train_setTrain]
    split
    · rw [hl, ha]; exact h.level_eq g
    · exact h.level_eq j

/-- A train's fields written, and its line driven to the level that it then gives. -/
theorem outputsOn_driveTrain {s : State} (h : s.OutputsOn) (g : Fin 2) {x : Train} {active : Bool}
    (hl : x.line = (s.train g).line) (ha : (x.running && x.part == .active) = active) :
    ((s.setTrain g x).driveTrain g active).OutputsOn := by
  have hout (k : Fin 8) : ((s.setTrain g x).driveTrain g active).output k
      = if k = (s.train g).line then { s.output k with level := (s.output k).rest != active } else s.output k := by
    simp only [State.driveTrain, State.driveOutput, State.train_setTrain_self, hl, State.output_setOutput,
      State.output_setTrain]
    split
    next he => rw [he]
    · rfl
  have htrain (j : Fin 2) : ((s.setTrain g x).driveTrain g active).train j = if j = g then x else s.train j :=
    State.train_setTrain s g x j
  have hline (j : Fin 2) : (((s.setTrain g x).driveTrain g active).train j).line = (s.train j).line := by
    rw [htrain]
    split
    next he => rw [hl, he]
    · rfl
  constructor
  · intro k j
    have howner : (((s.setTrain g x).driveTrain g active).output k).owner = (s.output k).owner := by
      rw [hout]
      split <;> rfl
    rw [howner, hline]
    exact h.owner_iff k j
  · intro j
    rw [hline, hout, htrain]
    by_cases hj : j = g
    · simp only [hj, if_true, ha]
    · have hne : (s.train j).line ≠ (s.train g).line := fun he => by
        have hown := (h.owner_iff _ j).mpr he
        rw [(h.owner_iff _ g).mpr rfl] at hown
        injection hown with hown
        exact hj hown.symm
      rw [if_neg hne, if_neg hj]
      exact h.level_eq j

/-- A line that no train owns is driven. -/
theorem outputsOn_driveOutput {s : State} (h : s.OutputsOn) (k : Fin 8) (level : Bool)
    (hk : (s.output k).owner = .level) : (s.driveOutput k level).OutputsOn := by
  have hne (g : Fin 2) : (s.train g).line ≠ k := fun he => by
    rw [(h.owner_iff k g).mpr he] at hk
    cases hk
  have hout (j : Fin 8) : (s.driveOutput k level).output j
      = if j = k then { s.output k with level := level } else s.output j := State.output_setOutput s k _ j
  constructor
  · intro j g
    rw [hout]
    split
    next he => rw [he]; exact h.owner_iff k g
    · exact h.owner_iff j g
  · intro g
    show ((s.driveOutput k level).output (s.train g).line).level
      = (((s.driveOutput k level).output (s.train g).line).rest != _)
    rw [hout, if_neg (hne g)]
    exact h.level_eq g

/-! ## All three, from JOIN on and in CONFIG -/

/-- Timers, trains and outputs of a station that has joined. -/
structure State.TimingOn (s : State) : Prop where
  timers : s.TimersInv
  trains : s.TrainsInv
  outputs : s.OutputsOn

/-- Timers, trains and outputs in CONFIG: every train idle and every line low. -/
structure State.TimingOff (s : State) : Prop where
  config : s.lc.state = .config
  timers : s.TimersInv
  trains : s.TrainsInv
  low : ∀ k, (s.output k).level = false
  idle : ∀ g, (s.train g).running = false

theorem timingInv_iff (s : State) : s.TimersInv ∧ s.TrainsInv ∧ s.OutputsInv
    ↔ s.TimingOff ∨ s.lc.state ≠ .config ∧ s.TimingOn := by
  constructor
  · rintro ⟨ht, hg, ho⟩
    by_cases hc : s.lc.state = .config
    · exact .inl ⟨hc, ht, hg, (ho.config_low hc).1, (ho.config_low hc).2⟩
    · exact .inr ⟨hc, ht, hg, ho.owner_iff hc, ho.level_eq hc⟩
  · rintro (h | ⟨hc, h⟩)
    · exact ⟨h.timers, h.trains, fun _ => ⟨h.low, h.idle⟩, fun hc => absurd h.config hc,
        fun hc => absurd h.config hc⟩
    · exact ⟨h.timers, h.trains, fun hs => absurd hs hc, fun _ => h.outputs.owner_iff, fun _ => h.outputs.level_eq⟩

theorem timingOn_congr {s t : State} (h : s.TimingOn) (hf : TimingFrame s t) : t.TimingOn :=
  ⟨timersInv_congr h.timers hf.timers (by rw [hf.image]), trainsInv_congr h.trains hf.trains (by rw [hf.image]),
    outputsOn_congr h.outputs hf.trains hf.outputs⟩

theorem timingOff_congr {s t : State} (h : s.TimingOff) (hf : TimingFrame s t) (hc : t.lc.state = s.lc.state) :
    t.TimingOff where
  config := hc.trans h.config
  timers := timersInv_congr h.timers hf.timers (by rw [hf.image])
  trains := trainsInv_congr h.trains hf.trains (by rw [hf.image])
  low k := by
    unfold State.output
    rw [hf.outputs]
    exact h.low k
  idle g := by
    unfold State.train
    rw [hf.trains]
    exact h.idle g

theorem timingOn_setTimer {s : State} (h : s.TimingOn) (t : Fin 4) {x : Timer} (hx : x.Inv) :
    (s.setTimer t x).TimingOn :=
  ⟨timersInv_setTimer h.timers t hx, trainsInv_congr h.trains rfl rfl, outputsOn_congr h.outputs rfl rfl⟩

theorem timingOff_setTimer {s : State} (h : s.TimingOff) (t : Fin 4) {x : Timer} (hx : x.Inv) :
    (s.setTimer t x).TimingOff :=
  ⟨h.config, timersInv_setTimer h.timers t hx, trainsInv_congr h.trains rfl rfl, h.low, h.idle⟩

/-- A train moved, and its line driven to the level that it then gives. -/
theorem timingOn_driveTrain {s : State} (h : s.TimingOn) (g : Fin 2) {x : Train} {active : Bool} (hx : x.Inv)
    (hl : x.line = (s.train g).line) (ha : (x.running && x.part == .active) = active) :
    ((s.setTrain g x).driveTrain g active).TimingOn :=
  ⟨timersInv_congr h.timers rfl rfl, trainsInv_congr (trainsInv_setTrain h.trains g hx) rfl rfl,
    outputsOn_driveTrain h.outputs g hl ha⟩

theorem timingOn_startTrain {s : State} (h : s.TimingOn) (g : Fin 2) : (s.startTrain g).TimingOn :=
  timingOn_driveTrain h g ((h.trains.trains g).part fun hf => nomatch hf) rfl rfl

theorem timingOn_stopTrain {s : State} (h : s.TimingOn) (g : Fin 2) : (s.stopTrain g).1.TimingOn := by
  have set {x : Train} (hx : x.Inv) (hl : x.line = (s.train g).line)
      (ha : (x.running && x.part == .active) = ((s.train g).running && (s.train g).part == .active)) :
      (s.setTrain g x).TimingOn :=
    ⟨timersInv_congr h.timers rfl rfl, trainsInv_setTrain h.trains g hx, outputsOn_setTrain h.outputs g hl ha⟩
  unfold State.stopTrain
  dsimp only
  split
  next hr =>
    split
    next hp => exact set (h.trains.trains g).idled rfl (by simp [hp, Train.idled])
    next hp => exact set ((h.trains.trains g).marked hr hp) rfl rfl
  · exact h

theorem actTimerStart_inv {s : State} {t : Fin 4} (h : (s.timer t).Inv) (parameter : BitVec 16) :
    ∃ x : Timer, x.Inv ∧ s.actTimerStart t parameter = s.setTimer t x := by
  unfold State.actTimerStart State.startTimer
  split
  · exact ⟨_, Timer.inv_moved (s.timer t) h.limit_pos true, rfl⟩
  next hp =>
    have hpos : 0 < parameter.toNat := Nat.pos_of_ne_zero fun hz => hp (by simpa using BitVec.eq_of_toNat_eq hz)
    refine ⟨_, Timer.inv_moved (s.timer t) hpos true, ?_⟩
    rw [State.setTimer_setTimer, State.timer_setTimer_self]

theorem startPulse_timing (s : State) (n : Nat) : TimingFrame s (s.startPulse n) := by
  have h := (OwnersFrame.refl (s.setLc { s.lc with
    pulse := n, due := s.lc.due.filter (· != .pulseEnds) })).arbiter.timing
  exact ⟨h.timers, h.trains, h.outputs, h.image⟩

theorem Acts.timingOn {s t : State} {r : Fin 24} (ht : Acts s r t) (h : s.TimingOn) : t.TimingOn := by
  have same {u : State} (hu : TimingFrame s u) : u.TimingOn := timingOn_congr h hu
  cases ht with
  | stay => exact h
  | send i => exact same ((OwnersFrame.refl s).requestSlot i).timing
  | timerStart t parameter =>
    obtain ⟨x, hx, e⟩ := actTimerStart_inv (h.timers.timers t) parameter
    rw [e]
    exact timingOn_setTimer h t hx
  | timerStop t => exact timingOn_setTimer h t (Timer.inv_moved _ (h.timers.timers t).limit_pos false)
  | trainStart g => exact timingOn_startTrain h g
  | trainStop g => exact timingOn_stopTrain h g
  | output k level hk =>
    exact ⟨timersInv_congr h.timers rfl rfl, trainsInv_congr h.trains rfl rfl,
      outputsOn_driveOutput h.outputs k level hk⟩
  | counterClear c => exact same ⟨rfl, rfl, rfl, rfl⟩
  | arm q => rcases s.armReaction_eq q with e | ⟨x, e⟩ <;> rw [e] <;> exact same ⟨rfl, rfl, rfl, rfl⟩
  | disarm q => rcases s.disarmReaction_eq q with e | ⟨x, e⟩ <;> rw [e] <;> exact same ⟨rfl, rfl, rfl, rfl⟩
  | finish o status ho => exact same ((OwnersFrame.refl s).finishObl o status []).timing
  | holdPulse parameter hs =>
    exact same (startPulse_timing s _)
  | notify code => exact same ⟨rfl, rfl, rfl, rfl⟩

theorem fire_timing (s : State) (r : Fin 24) : TimingFrame (s.perform r).state (s.fire r).state := by
  unfold State.fire State.noteRefusal
  dsimp only
  split <;> exact ⟨rfl, rfl, rfl, rfl⟩

theorem countEdge_timing (s : State) (c : Fin 2) (k : Fin 8) (e : Edge) :
    TimingFrame s (s.countEdge c k e).1 ∧ (s.countEdge c k e).1.lc = s.lc := by
  unfold State.countEdge
  dsimp only
  split <;> exact ⟨⟨rfl, rfl, rfl, rfl⟩, rfl⟩

theorem matchFrame_timing (s : State) (x : RxFrame) : TimingFrame s (s.matchFrame x).1 := by
  rw [matchFrame_frame]
  exact ⟨rfl, rfl, rfl, rfl⟩

theorem tasksKept_timingOn : TasksKept State.TimingOn where
  free _ _ h := timingOn_congr h ⟨rfl, rfl, rfl, rfl⟩
  fire s r _ _ h := timingOn_congr ((acts_perform s r).timingOn h) (fire_timing s r)
  suppress _ _ _ _ h := timingOn_congr h ⟨rfl, rfl, rfl, rfl⟩
  matchFrame s x h := timingOn_congr h (matchFrame_timing s x)
  openObligation s h := timingOn_congr h (OwnersFrame.refl s).openObligation.timing
  doneArrival s x h := timingOn_congr h ((OwnersFrame.refl s).doneArrival x).timing
  withdrawArrival s x h := timingOn_congr h ((OwnersFrame.refl s).withdrawArrival x).timing
  choose s h := timingOn_congr h (OwnersFrame.refl s).arbiter.timing
  count s c k e h := timingOn_congr h (countEdge_timing s c k e).1

theorem timingOff_owners {s t : State} (hf : OwnersFrame s t) (h : s.TimingOff) : t.TimingOff :=
  timingOff_congr h hf.timing hf.linkState

theorem tasksKept_timingOff : TasksKept State.TimingOff where
  free _ _ h := timingOff_congr h ⟨rfl, rfl, rfl, rfl⟩ rfl
  fire _ _ hc _ h := absurd h.config hc
  suppress _ _ _ _ h := timingOff_congr h ⟨rfl, rfl, rfl, rfl⟩ rfl
  matchFrame s x h := timingOff_congr h (matchFrame_timing s x) (by rw [matchFrame_frame])
  openObligation s h := timingOff_owners (OwnersFrame.refl s).openObligation h
  doneArrival s x h := timingOff_owners ((OwnersFrame.refl s).doneArrival x) h
  withdrawArrival s x h := timingOff_owners ((OwnersFrame.refl s).withdrawArrival x) h
  choose s h := timingOff_owners (OwnersFrame.refl s).arbiter h
  count s c k e h := timingOff_congr h (countEdge_timing s c k e).1 (by rw [(countEdge_timing s c k e).2])

/-! ## JOIN and LOAD -/

theorem failIf_eq_nil {b : Bool} {kind : Byte} {index : Nat} {reason : Byte} :
    failIf b kind index reason = [] ↔ b = false := by
  cases b <;> simp [failIf]

/-- Where no check of the image fails, none of its parts does. -/
theorem failures_eq_nil (s : State) : s.failures = [] ↔ s.checkStation = []
    ∧ (∀ f, s.checkFilter f = []) ∧ (∀ k, s.checkLine k = []) ∧ (∀ g, s.checkTrainLine g = [])
    ∧ (∀ c, s.checkCounter c = []) ∧ (∀ g, s.checkTrainWidth g = []) ∧ ∀ r, s.checkReaction r = [] := by
  have flat {n : Nat} (f : Fin n → List Failure) : ((List.finRange n).map f).flatten = [] ↔ ∀ i, f i = [] := by
    simp [List.flatten_eq_nil_iff]
  unfold State.failures
  simp only [List.append_eq_nil_iff, flat]
  tauto

/-- The tables of a checked image: each train's line is owned by it alone (R188, R189). -/
theorem owner_iff_of_checked {s : State} (h : s.failures = []) (k : Fin 8) (g : Fin 2) :
    s.image.lines[k].owner = .train g ↔ ix 8 s.image.trains[g].line = k := by
  obtain ⟨-, -, hline, htrain, -⟩ := (failures_eq_nil s).mp h
  have hown := htrain g
  simp only [State.checkTrainLine, List.append_eq_nil_iff, failIf_eq_nil] at hown
  constructor
  · intro ho
    have hk := hline k
    simp only [State.checkLine, ho, failIf_eq_nil] at hk
    exact ix_of_val _ _ (by simpa using hk)
  · rintro rfl
    simpa using hown.2

theorem width_of_checked {s : State} (h : s.failures = []) (g : Fin 2) :
    s.image.trains[g].width < s.image.trains[g].period := by
  obtain ⟨-, -, -, -, -, hwidth, -⟩ := (failures_eq_nil s).mp h
  simpa [State.checkTrainWidth, failIf_eq_nil] using hwidth g

/-- JOIN takes timers, trains and outputs from the image (R190). -/
theorem timingOn_applyImage {s : State} (hf : s.failures = []) (ht : s.TimersInv) (hg : s.TrainsInv) :
    s.applyImage.TimingOn := by
  have htimer (t : Fin 4) : s.applyImage.timer t
      = { Timer.reset with limit := s.image.timers[t].limit, mode := s.image.timers[t].mode } := by
    rw [applyImage_frame]
    simp [State.timer, State.applyTiming]
  have htrain (g : Fin 2) : s.applyImage.train g = { Train.reset with
      line := ix 8 s.image.trains[g].line
      period := s.image.trains[g].period
      width := s.image.trains[g].width
      count := s.image.trains[g].count } := by
    rw [applyImage_frame]
    simp [State.train, State.applyTiming]
  have hout (k : Fin 8) : s.applyImage.output k = { rest := s.image.lines[k].rest
                                                    owner := s.image.lines[k].owner
                                                    level := s.image.lines[k].rest } := by
    rw [applyImage_frame]
    simp [State.output, State.applyLines]
  have himage : s.applyImage.image = s.image := by rw [applyImage_frame]
  refine ⟨⟨fun t => ?_, by rw [himage]; exact ht.image⟩, ⟨fun g => ?_, by rw [himage]; exact hg.image⟩,
    fun k g => ?_, fun g => ?_⟩
  · rw [htimer]
    exact ⟨ht.image t, fun hr => (nomatch hr), fun _ => rfl, fun he => (nomatch he)⟩
  · rw [htrain]
    exact ⟨hg.image g, width_of_checked hf g, fun hr => (nomatch hr), fun _ => ⟨rfl, rfl⟩, fun hm => (nomatch hm),
      fun he => (nomatch he)⟩
  · rw [hout, htrain]
    exact owner_iff_of_checked hf k g
  · rw [htrain, hout]
    simp [Train.reset]

/-- A loaded TIMER entry has a limit, a loaded TRAIN entry a width (R186). -/
theorem timingOff_load {s t : State} {kind index : Byte} {f : Vector Byte 11} (h : s.TimingOff)
    (ht : s.loadEntry kind index f = some t) : t.TimingOff := by
  unfold State.loadEntry at ht
  split at ht
  case h_5 =>
    obtain ⟨x, hx, rfl⟩ := Option.map_eq_some_iff.mp ht
    have hpos : 0 < x.limit := by
      unfold loadTimer at hx
      split at hx
      · split at hx
        next hl => cases hx; exact hl
        · cases hx
      · cases hx
    refine ⟨h.config, ⟨h.timers.timers, fun j => ?_⟩, trainsInv_congr h.trains rfl rfl, h.low, h.idle⟩
    show 0 < (s.image.timers.set (ix 4 index) x)[j].limit
    rw [Fin.getElem_fin, Vector.getElem_set]
    split
    · exact hpos
    · exact h.timers.image j
  case h_7 =>
    obtain ⟨x, hx, rfl⟩ := Option.map_eq_some_iff.mp ht
    have hpos : 0 < x.width := by
      unfold loadTrain at hx
      split at hx
      next hl => cases hx; exact hl.2.1
      · cases hx
    refine ⟨h.config, timersInv_congr h.timers rfl rfl, ⟨h.trains.trains, fun j => ?_⟩, h.low, h.idle⟩
    show 0 < (s.image.trains.set (ix 2 index) x)[j].width
    rw [Fin.getElem_fin, Vector.getElem_set]
    split
    · exact hpos
    · exact h.trains.image j
  case h_9 => cases ht
  all_goals
    obtain ⟨x, -, rfl⟩ := Option.map_eq_some_iff.mp ht
    exact ⟨h.config, timersInv_congr h.timers rfl rfl, trainsInv_congr h.trains rfl rfl, h.low, h.idle⟩

/-- OUTPUT WRITE drives lines that no train owns (R177). -/
theorem timingOn_writeOutputs {s : State} {lines levels : Byte} (h : s.TimingOn)
    (hn : s.namesTrainLine lines = false) : (s.writeOutputs lines levels).TimingOn := by
  have hlevel (k : Fin 8) (hk : lines.getLsbD k.val = true) : (s.output k).owner = .level := by
    simp only [State.namesTrainLine, List.any_eq_false] at hn
    simpa [hk] using hn k (List.mem_finRange k)
  refine (foldl_keeps (P := fun t : State => t.TimingOn ∧ ∀ k, (t.output k).owner = (s.output k).owner) _ ?_ _ _
    ⟨h, fun _ => rfl⟩).1
  rintro t k ⟨ht, howner⟩
  split
  next hk =>
    refine ⟨⟨timersInv_congr ht.timers rfl rfl, trainsInv_congr ht.trains rfl rfl,
      outputsOn_driveOutput ht.outputs k _ ((howner k).trans (hlevel k hk))⟩, fun j => ?_⟩
    rw [State.driveOutput, State.output_setOutput]
    split
    next he => rw [he]; exact howner k
    · exact howner j
  · exact ⟨ht, howner⟩

/-! ## Rows -/

/-- The two cases of the invariant of timers, trains and outputs. -/
def State.TimingInv (s : State) : Prop := s.TimingOff ∨ s.lc.state ≠ .config ∧ s.TimingOn

theorem linkPred_joined : LinkPred fun s => s.lc.state ≠ .config where
  congr _ _ h ht := by rw [ht]; exact h
  moves _ _ _ _ h := h
  pulse _ _ _ h := h

theorem TasksKept.and {P Q : State → Prop} (K : TasksKept P) (H : TasksKept Q) : TasksKept fun s => P s ∧ Q s where
  free s n h := h.imp (K.free s n) (H.free s n)
  fire s r hc ha h := h.imp (K.fire s r hc ha) (H.fire s r hc ha)
  suppress s r o root h := h.imp (K.suppress s r o root) (H.suppress s r o root)
  matchFrame s x h := h.imp (K.matchFrame s x) (H.matchFrame s x)
  openObligation s h := h.imp (K.openObligation s) (H.openObligation s)
  doneArrival s x h := h.imp (K.doneArrival s x) (H.doneArrival s x)
  withdrawArrival s x h := h.imp (K.withdrawArrival s x) (H.withdrawArrival s x)
  choose s h := h.imp (K.choose s) (H.choose s)
  count s c k e h := h.imp (K.count s c k e) (H.count s c k e)

theorem tasksKept_timing : TasksKept State.TimingInv :=
  tasksKept_timingOff.or (linkPred_joined.tasksKept.and tasksKept_timingOn)

theorem timingInv_congr {s t : State} (h : s.TimingInv) (hf : TimingFrame s t) (hc : t.lc.state = s.lc.state) :
    t.TimingInv :=
  h.imp (fun h => timingOff_congr h hf hc) fun h => ⟨hc.trans_ne h.1, timingOn_congr h.2 hf⟩

theorem timingInv_owners {s t : State} (hf : OwnersFrame s t) (h : s.TimingInv) : t.TimingInv :=
  timingInv_congr h hf.timing hf.linkState

theorem State.TimingInv.timer_inv {s : State} (h : s.TimingInv) (t : Fin 4) : (s.timer t).Inv :=
  h.elim (fun h => h.timers.timers t) fun h => h.2.timers.timers t

theorem timingInv_setTimer {s : State} (h : s.TimingInv) (t : Fin 4) {x : Timer} (hx : x.Inv) :
    (s.setTimer t x).TimingInv :=
  h.imp (fun h => timingOff_setTimer h t hx) fun h => ⟨h.1, timingOn_setTimer h.2 t hx⟩

theorem Took.timingInv {s t : State} (ht : Took s t) (h : s.TimingInv) : t.TimingInv := by
  have same {u : State} (hu : TimingFrame s u) (hc : u.lc.state = s.lc.state) : u.TimingInv := timingInv_congr h hu hc
  have owners {u : State} (hu : OwnersFrame s u) : u.TimingInv := timingInv_owners hu h
  have joined (hs : s.lc.state ≠ .config) : s.TimingOn := (h.resolve_left fun h => hs h.config).2
  cases ht with
  | joinConfig hs hf =>
    have hoff : s.TimingOff := h.resolve_right fun h => h.1 hs
    exact .inr ⟨LinkState.noConfusion,
      timingOn_congr (timingOn_applyImage hf hoff.timers hoff.trains) ⟨rfl, rfl, rfl, rfl⟩⟩
  | joinOffline hs =>
    exact .inr ⟨LinkState.noConfusion, timingOn_congr (joined (by simp [hs])) ⟨rfl, rfl, rfl, rfl⟩⟩
  | leave hs ho =>
    have hf := ownersFrame_takeLeave hs ho
    refine .inr ⟨?_, timingOn_congr (timingOn_congr (t := s.setLc s.lc.left) (joined hs) ⟨rfl, rfl, rfl, rfl⟩)
      hf.timing⟩
    rw [hf.linkState]
    exact LinkState.noConfusion
  | holdAssert => exact timingInv_owners (OwnersFrame.refl _).arbiter (same (u := s.setLc _) ⟨rfl, rfl, rfl, rfl⟩ rfl)
  | holdRelease => exact timingInv_owners (OwnersFrame.refl _).arbiter (same (u := s.setLc _) ⟨rfl, rfl, rfl, rfl⟩ rfl)
  | load kind index f _ hs ht =>
    exact .inl (timingOff_load (h.resolve_right fun h => h.1 hs) ht)
  | slotRequest i => exact owners ((OwnersFrame.refl s).requestSlot i)
  | abortPending i => exact owners ((OwnersFrame.refl s).arriveDone i _ _).arbiter
  | rxRelease r rest => split <;> exact same ⟨rfl, rfl, rfl, rfl⟩ rfl
  | callWithdraw k => exact owners ((OwnersFrame.refl s).setCall k _).arbiter
  | oblFinish o status bytes => exact owners ((OwnersFrame.refl s).finishObl o status bytes)
  | oblDiscard o => exact owners ((OwnersFrame.refl s).freeObl o)
  | arm r => rcases s.armReaction_eq r with e | ⟨x, e⟩ <;> rw [e] <;> exact same ⟨rfl, rfl, rfl, rfl⟩ rfl
  | disarm r => rcases s.disarmReaction_eq r with e | ⟨x, e⟩ <;> rw [e] <;> exact same ⟨rfl, rfl, rfl, rfl⟩ rfl
  | force r hs ha => exact tasksKept_timing.force s r hs ha h
  | timerStart t => exact timingInv_setTimer h t (Timer.inv_moved _ (h.timer_inv t).limit_pos true)
  | timerStop t => exact timingInv_setTimer h t (Timer.inv_moved _ (h.timer_inv t).limit_pos false)
  | timerExpires t limit hl => exact timingInv_setTimer h t (Timer.inv_moved _ hl _)
  | timerLimit t limit hl he => exact timingInv_setTimer h t ((h.timer_inv t).withLimit hl he)
  | trainStart g hs => exact .inr ⟨hs, timingOn_startTrain (joined hs) g⟩
  | trainStop g hs =>
    refine .inr ⟨?_, timingOn_stopTrain (joined hs) g⟩
    rcases stopTrain_frame s g with e | ⟨x, e⟩ <;> rw [e] <;> exact hs
  | outputWrite lines levels hs hn =>
    refine .inr ⟨?_, timingOn_writeOutputs (joined hs) hn⟩
    rw [writeOutputs_frame]
    exact hs
  | _ => exact same ⟨rfl, rfl, rfl, rfl⟩ rfl

theorem timingOff_reset : State.reset.TimingOff where
  config := rfl
  timers :=
    { timers := fun t => by
        have : State.reset.timer t = Timer.reset := by simp [State.reset, State.timer]
        rw [this]
        exact ⟨by decide, fun h => (nomatch h), fun _ => rfl, fun h => (nomatch h)⟩
      image := fun t => by simp [State.reset, Image.reset] }
  trains :=
    { trains := fun g => by
        have : State.reset.train g = Train.reset := by simp [State.reset, State.train]
        rw [this]
        exact ⟨by decide, by decide, fun h => (nomatch h), fun _ => ⟨rfl, rfl⟩, fun h => (nomatch h),
          fun h => (nomatch h)⟩
      image := fun g => by simp [State.reset, Image.reset] }
  low k := by simp [State.reset, State.output, OutputLine.reset]
  idle g := by simp [State.reset, State.train, Train.reset]

theorem PortStep.timingInv {s t : State} (ht : PortStep s t) (h : s.TimingInv) : t.TimingInv := by
  rcases ht.hp_or_reset with ⟨x, rfl⟩ | ⟨held, hcsLow, x, rfl⟩
  · exact timingInv_congr h ⟨rfl, rfl, rfl, rfl⟩ rfl
  · exact .inl (timingOff_congr timingOff_reset ⟨rfl, rfl, rfl, rfl⟩ rfl)

/-- An expiry: ONCE stops the timer, REPEATING starts it again (R160). -/
theorem timingInv_expireTimer {s : State} (t : Fin 4) (h : s.TimingInv) : (s.expireTimer t).TimingInv := by
  unfold State.expireTimer
  split
  · exact tasksKept_timing.settleTasks _ _
      (timingInv_setTimer h t (Timer.inv_moved _ (h.timer_inv t).limit_pos _))
  · exact h

/-- A leading edge begins the active part (R169). -/
theorem timingInv_leadTrain {s : State} (g : Fin 2) (h : s.TimingInv) : (s.leadTrain g).TimingInv := by
  unfold State.leadTrain
  dsimp only
  split
  next hd =>
    simp only [Train.leadingDue, Bool.and_eq_true, beq_iff_eq] at hd
    obtain ⟨⟨-, hr⟩, hp⟩ := hd
    obtain ⟨hc, hon⟩ := h.resolve_left fun h => by simp [h.idle g] at hr
    have hm : (s.train g).stopMark = true → TrainPart.active = .active := fun _ => rfl
    have hx := (hon.trains.trains g).part (p := .active) (n := (s.train g).pulses + 1) hm
    rw [← hr] at hx
    exact tasksKept_timing.settleTasks _ _ (.inr ⟨hc, timingOn_driveTrain hon g hx rfl (by simp [hr])⟩)
  · exact h

/-- A trailing edge ends the run or begins the rest part (R169, R170). -/
theorem timingInv_trailTrain {s : State} (g : Fin 2) (h : s.TimingInv) : (s.trailTrain g).TimingInv := by
  unfold State.trailTrain
  dsimp only
  split
  next hd =>
    simp only [Train.trailingDue, Bool.and_eq_true, beq_iff_eq] at hd
    obtain ⟨⟨-, hr⟩, hp⟩ := hd
    obtain ⟨hc, hon⟩ := h.resolve_left fun h => by simp [h.idle g] at hr
    split
    · exact tasksKept_timing.settleTasks _ _ (.inr ⟨hc, timingOn_driveTrain hon g (hon.trains.trains g).idled rfl rfl⟩)
    next he =>
      have hm : (s.train g).stopMark = true → TrainPart.rest = .active := fun hm => by
        unfold Train.runEnd at he
        split at he
        · cases he
        · simp at he
      have hx := (hon.trains.trains g).part (p := .rest) (n := (s.train g).pulses) hm
      rw [← hr] at hx
      exact .inr ⟨hc, timingOn_driveTrain hon g hx rfl (by simp)⟩
  · exact h

theorem timingInv_tick {s : State} (inputs : Byte) (h : s.TimingInv) : (s.tick inputs).TimingInv := by
  have htimer (t : Fin 4) : (s.tick inputs).timer t = (s.timer t).tick := by simp [State.timer, State.tick]
  have htrain (g : Fin 2) : (s.tick inputs).train g = (s.train g).tick := by simp [State.train, State.tick]
  have timers (ht : s.TimersInv) : (s.tick inputs).TimersInv :=
    ⟨fun t => by rw [htimer]; exact (ht.timers t).tick, ht.image⟩
  have trains (hg : s.TrainsInv) : (s.tick inputs).TrainsInv :=
    ⟨fun g => by rw [htrain]; exact (hg.trains g).tick, hg.image⟩
  refine h.imp (fun h => ⟨h.config, timers h.timers, trains h.trains, h.low, fun g => ?_⟩) fun h =>
    ⟨h.1, timers h.2.timers, trains h.2.trains, fun k g => ?_, fun g => ?_⟩
  · rw [htrain, (tick_line _).2.1]
    exact h.idle g
  · rw [htrain, (tick_line _).1]
    exact h.2.outputs.owner_iff k g
  · obtain ⟨hline, hrun, hpart⟩ := tick_line (s.train g)
    rw [htrain, hline, hrun, hpart]
    exact h.2.outputs.level_eq g

theorem rowsKept_timing : RowsKept fun s => s.LinkInv ∧ s.TimingInv := by
  have T := tasksKept_timing
  have due (s : State) (due : List LineEvent) (h : s.TimingInv) : (s.setLc { s.lc with due := due }).TimingInv :=
    timingInv_congr h ⟨rfl, rfl, rfl, rfl⟩ rfl
  refine RowsKeptWith.and ?_ rowsKept_linkInv
  exact
    { port := fun s t ht _ h => ht.timingInv h
      command := fun c s _ h => command_keeps T (fun s t ht h => ht.timingInv h)
        (fun _ _ h => timingInv_congr h ⟨rfl, rfl, rfl, rfl⟩ rfl) (fun s t ht h => ht.timingInv h) c s h
      stale := fun s e _ _ _ h => due s _ h
      carry := fun s e hm he hl h => by
        have hbus := hl.onBus_of_permits he
        obtain ⟨-, hon⟩ := h.resolve_left fun h => joined_of_onBus hbus h.config
        have hkept := rowsKept_linkInv.carry s e hm he hl
        have hphase : s.lc.phase ≠ .out := fun hp => hbus (hl.out_iff.mp hp)
        refine .inr ⟨joined_of_onBus (hkept.onBus (carryOut_onLine e hphase)), ?_⟩
        exact carryOut_keeps tasksKept_timingOn (fun _ _ hf hb => timingOn_congr hb hf.timing)
          (fun _ _ hb => timingOn_congr hb ⟨rfl, rfl, rfl, rfl⟩) _ e
          (timingOn_congr hon ⟨rfl, rfl, rfl, rfl⟩)
      sof := fun s c _ _ h => by rw [driveSof_frame]; exact timingInv_congr h ⟨rfl, rfl, rfl, rfl⟩ rfl
      edge := fun s k _ h => by
        unfold State.edgeInput
        dsimp only
        split
        · exact T.settleTasks _ _ (timingInv_congr h ⟨rfl, rfl, rfl, rfl⟩ rfl)
        · exact h
      timer := fun _ t _ h => timingInv_expireTimer t h
      lead := fun _ g _ h => timingInv_leadTrain g h
      trail := fun _ g _ h => timingInv_trailTrain g h
      call := fun s k _ h => expireCall_keeps T
        (fun s k _ hb => timingInv_owners (((OwnersFrame.refl s).setCall k _).settleCall k _) hb) s k h
      tick := fun _ inputs _ h => timingInv_tick inputs h
      readBit := fun s level _ _ _ h => by
        obtain ⟨a, b, c, d, e, f, n, q, due, hbit, -⟩ := bit_frame s.lc s.drivesHold level
        unfold State.readBit State.ripenIdle
        rw [hbit]
        split <;> exact timingInv_congr h ⟨rfl, rfl, rfl, rfl⟩ rfl }

/-- Settles O59: in CONFIG every train is idle and every line low, and no firing moves them; JOIN takes them from an
image whose checks have passed; from then on each move of a train drives its own line. -/
theorem stepKeepsTimersTrainsAndOutputs : Obligations.StepKeepsTimersTrainsAndOutputs := by
  intro s t hl ht hg ho hs
  exact (timingInv_iff t).mpr (rowsKept_timing.step (fun _ _ h => ⟨linkInv_congr h.1 rfl,
    timingInv_congr h.2 ⟨rfl, rfl, rfl, rfl⟩ rfl⟩) ⟨hl, (timingInv_iff s).mp ⟨ht, hg, ho⟩⟩ hs).2

end Sys2Proof.Machine
end

section
/-! SUPPORT. The owners of transmissions and what is in flight: SENDING, FINISHING and WITHDRAW owed, the binding of
slots and call entries, and the marks of a slot (R48, R49, R54, R66, R97, R98, R122). -/

namespace Sys2Proof.Machine

/-- The tables of the owners fit each other where `x` is in flight. -/
structure State.Owned (s : State) (x : Option Candidate) : Prop where
  sending_iff : ∀ i, (s.slot i).state = .sending ↔ x = some (.slot i)
  done_flight : ∀ o, x = some (.obligation o) → (s.obl o).state = .finishing
  withdraw_flight : ∀ k, x = some (.withdraw k) → (s.call k).withdrawPending = true
  withdraw_owed : ∀ k, (s.call k).withdrawPending = true → (s.call k).state = .withdrawing
  slot_bound : ∀ i, (s.slot i).binds → ∃ k, (s.slot i).call = some (k, (s.call k).generation)
    ∧ (s.call k).state = .reserved ∧ (s.call k).slot = some i
  entry_bound : ∀ k, (s.call k).state = .reserved → ∃ i, (s.call k).slot = some i ∧ (s.slot i).binds
    ∧ (s.slot i).call = some (k, (s.call k).generation)
  marks : ∀ i, (s.slot i).rerun = true ∨ (s.slot i).abort = true → (s.slot i).state = .sending

theorem owned_congr {s t : State} {x : Option Candidate} (h : s.Owned x) (ho : t.outbox = s.outbox)
    (hc : t.cu = s.cu) (he : t.ou.entries = s.ou.entries) : t.Owned x := by
  have hslot (i : Fin 8) : t.slot i = s.slot i := by unfold State.slot; rw [ho]
  have hcall (k : Fin 8) : t.call k = s.call k := by unfold State.call; rw [hc]
  have hobl (o : Fin 8) : t.obl o = s.obl o := by unfold State.obl; rw [he]
  constructor <;> simp only [hslot, hcall, hobl]
  exacts [h.sending_iff, h.done_flight, h.withdraw_flight, h.withdraw_owed, h.slot_bound, h.entry_bound, h.marks]

theorem owned_arbiter {s : State} {x : Option Candidate} (h : s.Owned x) : s.arbiter.Owned x :=
  owned_congr h s.arbiter_outbox s.arbiter_cu (by rw [s.arbiter_ou])

/-- What is in flight is dropped, unless it is a slot. -/
theorem owned_landed {s : State} {x : Option Candidate} (h : s.Owned x) (hx : ∀ i, x ≠ some (.slot i)) :
    s.Owned none where
  sending_iff i := ⟨fun hs => absurd ((h.sending_iff i).mp hs) (hx i), fun hn => nomatch hn⟩
  done_flight _ hn := nomatch hn
  withdraw_flight _ hn := nomatch hn
  withdraw_owed := h.withdraw_owed
  slot_bound := h.slot_bound
  entry_bound := h.entry_bound
  marks := h.marks

namespace State.Owned
variable {s : State} {x : Option Candidate} (h : s.Owned x)
include h

theorem not_withdraw_of_reserved {k : Fin 8} (hk : (s.call k).state ≠ .withdrawing) :
    (s.call k).withdrawPending = false :=
  Bool.eq_false_iff.mpr fun hp => hk (h.withdraw_owed k hp)

theorem withdraw_not_flight {k : Fin 8} (hk : (s.call k).state ≠ .withdrawing) : x ≠ some (.withdraw k) :=
  fun hx => hk (h.withdraw_owed k (h.withdraw_flight k hx))

/-- Two slots that hold one entry are one slot. -/
theorem bound_unique {i j k : Fin 8} {g g' : BitVec 3} (hi : (s.slot i).binds) (hj : (s.slot j).binds)
    (hci : (s.slot i).call = some (k, g)) (hcj : (s.slot j).call = some (k, g')) : i = j := by
  obtain ⟨a, ha, -, hsa⟩ := h.slot_bound i hi
  obtain ⟨b, hb, -, hsb⟩ := h.slot_bound j hj
  rw [hci] at ha
  rw [hcj] at hb
  cases ha
  cases hb
  rw [hsa] at hsb
  exact Option.some.inj hsb

end State.Owned

/-! ## One table written -/

/-- A slot written that binds what it bound before, if it bound anything. -/
theorem owned_setSlot {s : State} {x x' : Option Candidate} (h : s.Owned x) (i : Fin 8) {y : Slot}
    (hx : ∀ c, c ≠ .slot i → (x' = some c ↔ x = some c)) (hs : y.state = .sending ↔ x' = some (.slot i))
    (hb : y.binds ↔ (s.slot i).binds) (hc : y.binds → y.call = (s.slot i).call)
    (hm : y.rerun = true ∨ y.abort = true → y.state = .sending) : (s.setSlot i y).Owned x' where
  sending_iff j := by
    rw [State.slot_setSlot]
    split
    next he => rw [he]; exact hs
    next hne => rw [hx _ (by simpa using hne)]; exact h.sending_iff j
  done_flight o ho := h.done_flight o ((hx _ (by simp)).mp ho)
  withdraw_flight k hk := h.withdraw_flight k ((hx _ (by simp)).mp hk)
  withdraw_owed := h.withdraw_owed
  slot_bound j := by
    rw [State.slot_setSlot]
    split
    next he =>
      intro hy
      rw [hc hy, he]
      exact h.slot_bound i (hb.mp hy)
    · exact h.slot_bound j
  entry_bound k hk := by
    obtain ⟨j, hslot, hbinds, hcall⟩ := h.entry_bound k hk
    refine ⟨j, hslot, ?_⟩
    rw [State.slot_setSlot]
    split
    next he =>
      rw [he] at hbinds hcall
      exact ⟨hb.mpr hbinds, (hc (hb.mpr hbinds)).trans hcall⟩
    · exact ⟨hbinds, hcall⟩
  marks j := by
    rw [State.slot_setSlot]
    split
    · exact hm
    · exact h.marks j

/-- A call entry written that is bound to no slot, before and after. -/
theorem owned_setCall {s : State} {x : Option Candidate} (h : s.Owned x) (k : Fin 8) {e : CallEntry}
    (hr : (s.call k).state ≠ .reserved) (he : e.state ≠ .reserved)
    (hf : x = some (.withdraw k) → e.withdrawPending = true) (hw : e.withdrawPending = true → e.state = .withdrawing) :
    (s.setCall k e).Owned x where
  sending_iff := h.sending_iff
  done_flight := h.done_flight
  withdraw_flight j hj := by
    rw [State.call_setCall]
    split
    next hjk => exact hf (hjk ▸ hj)
    · exact h.withdraw_flight j hj
  withdraw_owed j := by
    rw [State.call_setCall]
    split
    · exact hw
    · exact h.withdraw_owed j
  slot_bound i hi := by
    obtain ⟨j, hcall, hstate, hslot⟩ := h.slot_bound i hi
    have hne : j ≠ k := fun hjk => hr (hjk ▸ hstate)
    refine ⟨j, ?_⟩
    rw [State.call_setCall, if_neg hne]
    exact ⟨hcall, hstate, hslot⟩
  entry_bound j := by
    rw [State.call_setCall]
    split
    · exact fun hs => absurd hs he
    · exact h.entry_bound j
  marks := h.marks

/-- An obligation written; one whose DONE is in flight stays FINISHING. -/
theorem owned_setObl {s : State} {x : Option Candidate} (h : s.Owned x) (o : Fin 8) {e : Obligation}
    (hf : x = some (.obligation o) → e.state = .finishing) : (s.setObl o e).Owned x where
  sending_iff := h.sending_iff
  done_flight p hp := by
    rw [State.obl_setObl]
    split
    next hpo => exact hf (hpo ▸ hp)
    · exact h.done_flight p hp
  withdraw_flight := h.withdraw_flight
  withdraw_owed := h.withdraw_owed
  slot_bound := h.slot_bound
  entry_bound := h.entry_bound
  marks := h.marks

/-- A slot that binds an entry lets it go, and both go on without each other (R58). -/
theorem owned_unbind {s : State} {x : Option Candidate} (h : s.Owned x) {i k : Fin 8} {g : BitVec 3}
    (hb : (s.slot i).binds) (hc : (s.slot i).call = some (k, g)) {e : CallEntry} {y : Slot}
    (he : e.state ≠ .reserved) (hw : e.withdrawPending = true → e.state = .withdrawing) (hy : ¬ y.binds)
    (hs : y.state ≠ .sending) (hm : y.rerun = false ∧ y.abort = false) (hx : x ≠ some (.slot i)) :
    ((s.setCall k e).setSlot i y).Owned x := by
  have hslot (j : Fin 8) : ((s.setCall k e).setSlot i y).slot j = if j = i then y else s.slot j :=
    State.slot_setSlot _ i y j
  have hcall (j : Fin 8) : ((s.setCall k e).setSlot i y).call j = if j = k then e else s.call j :=
    State.call_setCall s k e j
  have hres : (s.call k).state = .reserved := by
    obtain ⟨a, ha, hstate, -⟩ := h.slot_bound i hb
    rw [hc] at ha
    cases ha
    exact hstate
  exact
    { sending_iff := fun j => by
        rw [hslot]
        split
        next hj => rw [hj]; exact ⟨fun hss => absurd hss hs, fun hss => absurd hss hx⟩
        · exact h.sending_iff j
      done_flight := h.done_flight
      withdraw_flight := fun j hj => by
        have hne : j ≠ k := fun hjk => h.withdraw_not_flight (k := k) (by simp [hres]) (hjk ▸ hj)
        rw [hcall, if_neg hne]
        exact h.withdraw_flight j hj
      withdraw_owed := fun j => by
        rw [hcall]
        split
        · exact hw
        · exact h.withdraw_owed j
      slot_bound := fun j => by
        rw [hslot]
        split
        · exact fun hyb => absurd hyb hy
        next hji =>
          intro hj
          obtain ⟨a, hca, hsa, hla⟩ := h.slot_bound j hj
          have hne : a ≠ k := fun hak => hji (h.bound_unique hj hb (hak ▸ hca) hc)
          refine ⟨a, ?_⟩
          rw [hcall, if_neg hne]
          exact ⟨hca, hsa, hla⟩
      entry_bound := fun j => by
        rw [hcall]
        split
        · exact fun hr => absurd hr he
        next hjk =>
          intro hj
          obtain ⟨a, hla, hba, hca⟩ := h.entry_bound j hj
          have hne : a ≠ i := fun hai => by
            rw [hai, hc] at hca
            cases hca
            exact hjk rfl
          refine ⟨a, hla, ?_⟩
          rw [hslot, if_neg hne]
          exact ⟨hba, hca⟩
      marks := fun j => by
        rw [hslot]
        split
        · rintro (hr | ha)
          · exact absurd hr (by simp [hm.1])
          · exact absurd ha (by simp [hm.2])
        · exact h.marks j }

/-- A slot that is neither PENDING nor SENDING reserves a FREE entry (R48, R88). -/
theorem owned_reserve {s : State} {x : Option Candidate} (h : s.Owned x) {i k : Fin 8}
    (hp : (s.slot i).state ≠ .pending) (hs : (s.slot i).state ≠ .sending) (hk : (s.call k).state = .free)
    (hkind : (s.slot i).kind = .call) :
    ((s.reserveCall i k).setSlot i ((s.slot i).requested (some (k, (s.call k).generation + 1)))).Owned x := by
  have hslot (j : Fin 8) : ((s.reserveCall i k).setSlot i ((s.slot i).requested (some (k,
      (s.call k).generation + 1)))).slot j = if j = i then (s.slot i).requested (some (k, (s.call k).generation + 1))
        else s.slot j := State.slot_setSlot _ i _ j
  have hcall (j : Fin 8) : ((s.reserveCall i k).setSlot i ((s.slot i).requested (some (k,
      (s.call k).generation + 1)))).call j = if j = k then _ else s.call j := State.call_setCall s k _ j
  have hunbound : ¬ (s.slot i).binds := fun hb => hb.2.elim hp hs
  have hx : x ≠ some (.slot i) := fun hx => hs ((h.sending_iff i).mpr hx)
  exact
    { sending_iff := fun j => by
        rw [hslot]
        split
        next hj => rw [hj]; exact ⟨fun hss => (nomatch hss), fun hss => absurd hss hx⟩
        · exact h.sending_iff j
      done_flight := h.done_flight
      withdraw_flight := fun j hj => by
        have hne : j ≠ k := fun hjk => h.withdraw_not_flight (k := k) (by simp [hk]) (hjk ▸ hj)
        rw [hcall, if_neg hne]
        exact h.withdraw_flight j hj
      withdraw_owed := fun j => by
        rw [hcall]
        split
        · exact fun hn => nomatch hn
        · exact h.withdraw_owed j
      slot_bound := fun j => by
        rw [hslot]
        split
        next hj =>
          intro _
          refine ⟨k, ?_⟩
          rw [hcall, if_pos rfl, hj]
          exact ⟨rfl, rfl, rfl⟩
        · intro hj
          obtain ⟨a, hca, hsa, hla⟩ := h.slot_bound j hj
          have hne : a ≠ k := fun hak => by rw [hak, hk] at hsa; cases hsa
          refine ⟨a, ?_⟩
          rw [hcall, if_neg hne]
          exact ⟨hca, hsa, hla⟩
      entry_bound := fun j => by
        rw [hcall]
        split
        next hj =>
          intro _
          refine ⟨i, rfl, ?_⟩
          rw [hslot, if_pos rfl, hj]
          exact ⟨⟨hkind, .inl rfl⟩, rfl⟩
        · intro hj
          obtain ⟨a, hla, hba, hca⟩ := h.entry_bound j hj
          have hne : a ≠ i := fun hai => hunbound (hai ▸ hba)
          refine ⟨a, hla, ?_⟩
          rw [hslot, if_neg hne]
          exact ⟨hba, hca⟩
      marks := fun j => by
        rw [hslot]
        split
        · rintro (hr | hab)
          · cases hr
          · exact absurd (h.marks i (.inr hab)) hs
        · exact h.marks j }

/-! ## Requests (R47 to R50) -/

theorem owned_newRequest {s t : State} {x : Option Candidate} {i : Fin 8} (h : s.Owned x)
    (hp : (s.slot i).state ≠ .pending) (hs : (s.slot i).state ≠ .sending) (ht : s.newRequest i = some t) :
    t.Owned x := by
  unfold State.newRequest at ht
  split at ht
  next hk =>
    cases ht
    have hx : x ≠ some (.slot i) := fun hx => hs ((h.sending_iff i).mpr hx)
    refine owned_arbiter (owned_setSlot h i (fun _ _ => Iff.rfl) ⟨fun hn => (nomatch hn), fun hn => absurd hn hx⟩ ?_ ?_ ?_)
    · exact ⟨fun hb => absurd (hk.symm.trans hb.1) (by decide), fun hb => absurd (hk.symm.trans hb.1) (by decide)⟩
    · exact fun hb => absurd (hk.symm.trans hb.1) (by decide)
    · exact fun hm => hm.elim (fun hr => nomatch hr) fun ha => absurd (h.marks i (.inr ha)) hs
  next hk =>
    split at ht
    · cases ht
    next k hfree =>
      cases ht
      exact owned_arbiter (owned_reserve h hp hs (s.lowestFreeCall_some hfree) hk)

theorem owned_requestSlot {s : State} {x : Option Candidate} (h : s.Owned x) (i : Fin 8) :
    (s.requestSlot i).1.Owned x := by
  unfold State.requestSlot
  split
  iterate 2 exact h
  next hs =>
    exact owned_setSlot h i (fun _ _ => Iff.rfl) (h.sending_iff i) Iff.rfl (fun _ => rfl) fun _ => hs
  all_goals
    split
    next ht => exact owned_newRequest h (by simp [*]) (by simp [*]) ht
    · exact h

/-! ## Arrival at a done state (R57 to R59) -/

/-- The slot as it waits for its turn, its marks off. -/
def Slot.waiting (sl : Slot) : Slot := { sl with state := .pending, rerun := false, abort := false }

theorem setCall_setSlot (s : State) (i k : Fin 8) (y : Slot) (e : CallEntry) :
    (s.setSlot i y).setCall k e = (s.setCall k e).setSlot i y := rfl

theorem setSlot_slot (s : State) (i : Fin 8) : s.setSlot i (s.slot i) = s := by
  simp [State.setSlot, State.slot]

/-- A new request takes no notice of the rerun mark. -/
theorem newRequest_clearRerun (s : State) (i : Fin 8) :
    (s.setSlot i { s.slot i with rerun := false }).newRequest i = s.newRequest i := by
  have hreserve (k : Fin 8) (y : Slot) : ((s.setSlot i { s.slot i with rerun := false }).reserveCall i k).setSlot i y
      = (s.reserveCall i k).setSlot i y := by
    simp only [State.reserveCall, State.slot_setSlot_self, State.call_setSlot, setCall_setSlot,
      State.setSlot_setSlot]
  unfold State.newRequest
  simp only [hreserve, State.slot_setSlot_self, State.setSlot_setSlot, State.call_setSlot]
  rfl

/-- The rerun mark at a done state, the tables in order but for the mark. -/
theorem owned_applyRerun {s : State} {x : Option Candidate} {i : Fin 8}
    (h : (s.setSlot i { s.slot i with rerun := false }).Owned x) (hp : (s.slot i).state ≠ .pending)
    (hs : (s.slot i).state ≠ .sending) : (s.applyRerun i).Owned x := by
  have hslot : (s.setSlot i { s.slot i with rerun := false }).slot i = { s.slot i with rerun := false } :=
    State.slot_setSlot_self s i _
  unfold State.applyRerun
  split
  · split
    next t ht =>
      rw [← newRequest_clearRerun] at ht
      exact owned_newRequest h (by rw [hslot]; exact hp) (by rw [hslot]; exact hs) ht
    · have := owned_setSlot (x' := x) h i (y := { s.slot i with rerun := false, rerunDropped := true })
        (fun _ _ => Iff.rfl) (by rw [← h.sending_iff i, hslot]) (by rw [hslot]; rfl) (fun _ => by rw [hslot])
        (fun hm => hm.elim (fun hn => nomatch hn) fun ha => by
          have := h.marks i (.inr (by rw [hslot]; exact ha))
          rw [hslot] at this
          exact this)
      rw [State.setSlot_setSlot] at this
      exact owned_congr this rfl rfl rfl
  next hr =>
    have hself : { s.slot i with rerun := false } = s.slot i := by
      rw [← Bool.eq_false_iff.mpr hr]
    rwa [hself, setSlot_slot] at h

/-- The tables after the opening of a call: the entry alone is written, RESERVED no more. -/
theorem openCall_tables (s : State) (k : Fin 8) (l : List Byte) (hp : (s.call k).withdrawPending = false) :
    ∃ e : CallEntry, (s.openCall k l).1.outbox = s.outbox ∧ (s.openCall k l).1.cu = s.cu.set k e
      ∧ (s.openCall k l).1.ou = s.ou ∧ e.state ≠ .reserved ∧ e.withdrawPending = false := by
  by_cases hl : (responseLists s.lc.station l).1 = []
  · rw [openCall_of_none hl, settleCall_written]
    rw [State.arbiter_outbox, State.arbiter_cu, State.arbiter_ou, State.setCall_setCall]
    exact ⟨_, rfl, rfl, rfl, CallState.noConfusion, rfl⟩
  · rw [openCall_of_enrolled hl]
    exact ⟨_, rfl, rfl, rfl, CallState.noConfusion, hp⟩

theorem slotState_ne (d : DoneState) : d.slotState ≠ .pending ∧ d.slotState ≠ .sending := by
  cases d <;> decide

/-- A slot at a done state lets its entry go (R58). -/
theorem owned_endBinding {s : State} {x : Option Candidate} {i : Fin 8}
    (h : (s.setSlot i (s.slot i).waiting).Owned x) (hp : (s.slot i).state ≠ .pending)
    (hs : (s.slot i).state ≠ .sending) (ha : (s.slot i).abort = false) (d : DoneState) (l : List Byte) :
    ((s.endBinding i d l).1.setSlot i { (s.endBinding i d l).1.slot i with rerun := false }).Owned x
      ∧ ((s.endBinding i d l).1.slot i).state = (s.slot i).state := by
  have hwait : (s.setSlot i (s.slot i).waiting).slot i = (s.slot i).waiting := State.slot_setSlot_self ..
  have hx : x ≠ some (.slot i) := fun hx => by
    have := (h.sending_iff i).mpr hx
    rw [hwait] at this
    cases this
  have unbound {y : Slot} (hy : y.state = (s.slot i).state) : ¬ y.binds := fun hb => by
    have := hb.2
    rw [hy] at this
    exact this.elim hp hs
  have unbind {k : Fin 8} {g : BitVec 3} (hk : (s.slot i).kind = .call) (hc : (s.slot i).call = some (k, g))
      {e : CallEntry} {y : Slot} (he : e.state ≠ .reserved) (hw : e.withdrawPending = false)
      (hy : y.state = (s.slot i).state) (hm : y.rerun = false ∧ y.abort = false) :
      (((s.setSlot i (s.slot i).waiting).setCall k e).setSlot i y).Owned x :=
    owned_unbind h (by rw [hwait]; exact ⟨hk, .inl rfl⟩) (by rw [hwait]; exact hc) he
      (fun hp => absurd hp (by simp [hw])) (unbound hy) (by rw [hy]; exact hs) hm hx
  unfold State.endBinding
  split
  next k g hk hc =>
    split
    next hd =>
      have hpend : (s.call k).withdrawPending = false := by
        refine h.not_withdraw_of_reserved (k := k) ?_
        obtain ⟨a, hca, hsa, -⟩ := h.slot_bound i (by rw [hwait]; exact ⟨hk, .inl rfl⟩)
        rw [hwait] at hca
        cases hc.symm.trans hca
        rw [hsa]
        exact CallState.noConfusion
      obtain ⟨e, hout, hcu, hou, he, hw⟩ := openCall_tables s k l hpend
      have hslot : (s.openCall k l).1.slot i = s.slot i := by
        unfold State.slot
        rw [hout]
      rw [hslot]
      refine ⟨owned_congr (unbind (y := { s.slot i with rerun := false }) hk hc he hw rfl ⟨rfl, ha⟩) ?_ ?_ ?_, rfl⟩
      · simp [hout]
      · simp [hcu]
      · simp [hou]
    · have hslot (y : Slot) : ((s.releaseCall k).setSlot i y).slot i = y := State.slot_setSlot_self ..
      rw [hslot]
      refine ⟨owned_congr (unbind (y := { s.slot i with rerun := false, call := none }) hk hc
        (e := CallEntry.freeWith (s.call k).generation) CallState.noConfusion rfl rfl ⟨rfl, ha⟩) ?_ ?_ ?_, rfl⟩
      · simp [State.releaseCall]
      · simp [State.releaseCall]
      · simp [State.releaseCall]
  next hn =>
    refine ⟨?_, rfl⟩
    have hnb : ¬ (s.slot i).waiting.binds := fun hb => by
      obtain ⟨a, hca, -⟩ := h.slot_bound i (by rw [hwait]; exact hb)
      rw [hwait] at hca
      exact hn _ _ hb.1 hca
    have := owned_setSlot (x' := x) h i (y := { s.slot i with rerun := false }) (fun _ _ => Iff.rfl)
      ⟨fun hss => absurd hss hs, fun hss => absurd hss hx⟩
      (by rw [hwait]; exact ⟨fun hb => absurd hb (unbound rfl), fun hb => absurd hb hnb⟩)
      (fun hb => absurd hb (unbound rfl))
      (fun hm => hm.elim (fun hn => nomatch hn) fun hab => absurd (ha.symm.trans hab) (by decide))
    rwa [State.setSlot_setSlot] at this

/-- A slot arrives at a done state: it lets its entry go, and asks anew where the rerun mark is set. -/
theorem owned_arriveDone {s : State} {x : Option Candidate} {i : Fin 8}
    (h : (s.setSlot i (s.slot i).waiting).Owned x) (ha : (s.slot i).abort = false) (d : DoneState) (l : List Byte) :
    (s.arriveDone i d l).1.Owned x := by
  obtain ⟨hnp, hns⟩ := slotState_ne d
  have arrived (t : State) (ht : t = ((s.setSlot i { s.slot i with state := d.slotState }).setFlag
      .slotDone).addSlotDone i) : ((t.endBinding i d l).1.applyRerun i).Owned x := by
    have hslot : t.slot i = { s.slot i with state := d.slotState } := by
      rw [ht]
      exact State.slot_setSlot_self ..
    have hw : (t.setSlot i (t.slot i).waiting).Owned x := by
      rw [hslot]
      refine owned_congr h ?_ (by rw [ht]; rfl) (by rw [ht]; rfl)
      rw [ht]
      simp [Slot.waiting, State.setFlag, State.addSlotDone]
    obtain ⟨hend, hstate⟩ := owned_endBinding hw (by rw [hslot]; exact hnp) (by rw [hslot]; exact hns)
      (by rw [hslot]; exact ha) d l
    rw [hslot] at hstate
    exact owned_applyRerun hend (by rw [hstate]; exact hnp) (by rw [hstate]; exact hns)
  exact arrived _ rfl

/-! ## Settled codes (R55, R66, R99, R123) -/

/-- What a settled code makes of a slot before its arrival, or its return to PENDING (R55). -/
structure Slot.Settled (x y : Slot) : Prop where
  kind : y.kind = x.kind
  call : y.call = x.call
  deadline : y.deadline = x.deadline
  abort : y.abort = false
  losses : y.losses = x.losses ∨ y.losses = min (x.losses + 1) 255
  attempts : y.attempts = x.attempts ∨ y.attempts = x.attempts + 1

/-- A slot with its settled code arrives at a done state, or returns to PENDING. -/
theorem slotOutcome_cases (s : State) (i : Fin 8) (c : TxCode) (l : List Byte) :
    ∃ y, (s.slot i).Settled y ∧ ((∃ d l', s.slotOutcome i c l = (s.setSlot i y).arriveDone i d l')
      ∨ (s.slotOutcome i c l = s.returnPending i y
        ∧ (y.attempts = (s.slot i).attempts ∨ y.attempts ≤ s.lc.retryLimit))) := by
  unfold State.slotOutcome
  dsimp only
  split
  · refine ⟨_, ?_, .inl ⟨_, _, rfl⟩⟩
    exact ⟨rfl, rfl, rfl, rfl, .inl rfl, .inl rfl⟩
  · split
    · refine ⟨_, ?_, .inl ⟨_, _, rfl⟩⟩
      exact ⟨rfl, rfl, rfl, rfl, .inl rfl, .inl rfl⟩
    · refine ⟨_, ?_, .inr ⟨rfl, .inl rfl⟩⟩
      exact ⟨rfl, rfl, rfl, rfl, .inr rfl, .inl rfl⟩
  · split
    · refine ⟨_, ?_, .inl ⟨_, _, rfl⟩⟩
      exact ⟨rfl, rfl, rfl, rfl, .inl rfl, .inl rfl⟩
    · refine ⟨_, ?_, .inr ⟨rfl, .inl rfl⟩⟩
      exact ⟨rfl, rfl, rfl, rfl, .inl rfl, .inl rfl⟩
  all_goals
    split
    · refine ⟨_, ?_, .inl ⟨_, _, rfl⟩⟩
      exact ⟨rfl, rfl, rfl, rfl, .inl rfl, .inl rfl⟩
    · split
      · refine ⟨_, ?_, .inl ⟨_, _, rfl⟩⟩
        exact ⟨rfl, rfl, rfl, rfl, .inl rfl, .inr rfl⟩
      next hlt =>
        refine ⟨_, ?_, .inr ⟨rfl, .inr (not_lt.mp hlt)⟩⟩
        exact ⟨rfl, rfl, rfl, rfl, .inl rfl, .inr rfl⟩

theorem Slot.Settled.waiting_eq {x y : Slot} (h : x.Settled y) : { y with state := .pending, rerun := false }
    = y.waiting := by
  have ha := h.abort
  cases y
  cases ha
  rfl

/-- The slot in flight with its settled code. -/
theorem owned_slotOutcome {s : State} {i : Fin 8} (h : (s.setSlot i (s.slot i).waiting).Owned none) (c : TxCode)
    (l : List Byte) : (s.slotOutcome i c l).1.Owned none := by
  have hwait : (s.setSlot i (s.slot i).waiting).slot i = (s.slot i).waiting := State.slot_setSlot_self ..
  obtain ⟨y, hy, hcases⟩ := slotOutcome_cases s i c l
  have waiting : (s.setSlot i y.waiting).Owned none := by
    have := owned_setSlot (x' := none) h i (y := y.waiting) (fun _ _ => Iff.rfl)
      ⟨fun hn => (nomatch hn), fun hn => (nomatch hn)⟩
      (by rw [hwait]; unfold Slot.binds; rw [show y.waiting.kind = (s.slot i).waiting.kind from hy.kind]; rfl)
      (fun _ => by rw [hwait]; exact hy.call) (fun hm => hm.elim (fun hn => nomatch hn) fun hn => nomatch hn)
    rwa [State.setSlot_setSlot] at this
  rcases hcases with ⟨d, l', e⟩ | ⟨e, -⟩ <;> rw [e]
  · refine owned_arriveDone ?_ (by rw [State.slot_setSlot_self]; exact hy.abort) d l'
    rw [State.slot_setSlot_self, State.setSlot_setSlot]
    exact waiting
  · unfold State.returnPending
    rw [hy.waiting_eq]
    exact owned_arbiter waiting

theorem owned_settleCall {s : State} {x : Option Candidate} (h : s.Owned x) (k : Fin 8) (o : CallOutcome)
    (hr : (s.call k).state ≠ .reserved) (hx : x ≠ some (.withdraw k)) : (s.settleCall k o).Owned x := by
  rw [settleCall_written]
  refine owned_arbiter (owned_congr (owned_setCall h k hr ?_ ?_ ?_) rfl rfl rfl)
  · exact CallState.noConfusion
  · exact fun hn => absurd hn hx
  · exact fun hn => absurd hn Bool.false_ne_true

theorem owned_doneOutcome {s : State} (h : s.Owned none) (o : Fin 8) (c : TxCode) : (s.doneOutcome o c).Owned none := by
  have set (e : Obligation) : (s.setObl o e).Owned none := owned_setObl h o fun hn => nomatch hn
  unfold State.doneOutcome
  split
  · exact owned_congr (set _) rfl rfl rfl
  iterate 2 exact h
  all_goals
    dsimp only
    split
    · exact owned_congr (set _) rfl rfl rfl
    · exact set _

theorem owned_withdrawOutcome {s : State} (h : s.Owned none) {k : Fin 8} (hk : (s.call k).withdrawPending = true)
    (c : TxCode) : (s.withdrawOutcome k c).1.Owned none := by
  have hstate : (s.call k).state = .withdrawing := h.withdraw_owed k hk
  have hr : (s.call k).state ≠ .reserved := by rw [hstate]; exact CallState.noConfusion
  have attempt (n : Nat) : (s.setCall k { s.call k with withdrawAttempts := n }).Owned none :=
    owned_setCall h k hr hr (fun hn => nomatch hn) fun _ => hstate
  unfold State.withdrawOutcome
  split
  · exact owned_settleCall h k _ hr nofun
  iterate 2 exact h
  all_goals
    dsimp only
    split
    · exact owned_settleCall (attempt _) k _ (by rw [State.call_setCall_self]; exact hr) nofun
    · exact attempt _

/-- The code of what is in flight is handed to its owner, and nothing is in flight any more. -/
theorem owned_handInFlight {s : State} (h : s.Owned s.lc.inFlight) (c : TxCode) (l : List Byte) :
    (s.handInFlight c l).1.Owned none ∧ (s.handInFlight c l).1.lc.inFlight = none := by
  refine ⟨?_, (ownersFrame_handInFlight s c l).inFlight⟩
  unfold State.handInFlight State.handOutcome
  split
  next x hx =>
    rw [hx] at h
    dsimp only
    split
    next i =>
      refine owned_slotOutcome ?_ c l
      have hs := (h.sending_iff i).mpr rfl
      refine owned_congr (owned_setSlot (x' := none) h i (y := (s.slot i).waiting) (fun c hc => ?_)
        ⟨fun hn => (nomatch hn), fun hn => (nomatch hn)⟩ ?_ (fun _ => rfl)
        (fun hm => hm.elim (fun hn => nomatch hn) fun hn => nomatch hn)) rfl rfl rfl
      · exact ⟨fun hn => (nomatch hn), fun hn => absurd (Option.some.inj hn).symm hc⟩
      · exact ⟨fun hb => ⟨hb.1, .inr hs⟩, fun hb => ⟨hb.1, .inl rfl⟩⟩
    next o =>
      exact owned_doneOutcome (s := s.setLc { s.lc with inFlight := none })
        (owned_congr (owned_landed h (by simp)) rfl rfl rfl) o c
    next k =>
      exact owned_withdrawOutcome (s := s.setLc { s.lc with inFlight := none })
        (owned_congr (owned_landed h (by simp)) rfl rfl rfl) (h.withdraw_flight k rfl) c
  next hn => rwa [hn] at h

/-! ## Frames received (R93, R113, R118, R124) -/

/-- The lists and counts of an entry that is not RESERVED, written. -/
theorem owned_setCall_lists {s : State} {x : Option Candidate} (h : s.Owned x) (k : Fin 8) {e : CallEntry}
    (hr : (s.call k).state ≠ .reserved) (hs : e.state = (s.call k).state)
    (hw : e.withdrawPending = (s.call k).withdrawPending) : (s.setCall k e).Owned x :=
  owned_setCall h k hr (by rw [hs]; exact hr) (by rw [hw]; exact h.withdraw_flight k)
    (by rw [hs, hw]; exact h.withdraw_owed k)

theorem owned_collectDone {s : State} (h : s.Owned none) (k : Fin 8) (x : RxFrame)
    (hr : (s.call k).state ≠ .reserved) : (s.collectDone k x).1.Owned none := by
  have collected := owned_setCall_lists h k (e := { s.call k with
    results := (s.call k).results ++ [x.result false s.now]
    outstanding := (s.call k).outstanding.erase x.source }) hr rfl rfl
  unfold State.collectDone
  dsimp only
  split
  · exact owned_settleCall collected k .allDone (by rw [State.call_setCall_self]; exact hr) nofun
  · exact collected

theorem owned_lateDone {s : State} (h : s.Owned none) (k : Fin 8) (x : RxFrame)
    (hr : (s.call k).state ≠ .reserved) : (s.lateDone k x).Owned none :=
  owned_congr (owned_setCall_lists h k (e := { s.call k with
    results := (s.call k).results ++ [x.result true s.now]
    unanswered := (s.call k).unanswered.erase x.source }) hr rfl rfl) rfl rfl rfl

theorem owned_doneArrival {s : State} (h : s.Owned none) (x : RxFrame) : (s.doneArrival x).1.Owned none := by
  unfold State.doneArrival
  dsimp only
  split
  next hc =>
    refine owned_collectDone h _ x ?_
    rcases hc.2.1 with hs | hs <;> rw [hs] <;> exact CallState.noConfusion
  · split
    next hl => exact owned_lateDone h _ x (by rw [hl.2.1]; exact CallState.noConfusion)
    · exact owned_congr h rfl rfl rfl

theorem owned_withdrawArrival {s : State} {y : Option Candidate} (h : s.Owned y) (hy : s.lc.inFlight = y) (x : RxFrame) :
    (s.withdrawArrival x).1.Owned y := by
  unfold State.withdrawArrival
  split
  next o _ =>
    split
    · exact h
    next hn =>
      exact owned_arbiter (owned_congr (owned_setObl h o fun ho => absurd (hy.trans ho) hn) rfl rfl rfl)
  · exact h

/-- A RESERVED obligation is not in flight, so it may be written. -/
theorem owned_setObl_of_reserved {s : State} {x : Option Candidate} (h : s.Owned x) {o : Fin 8}
    (ho : (s.obl o).state ≠ .finishing) (e : Obligation) : (s.setObl o e).Owned x :=
  owned_setObl h o fun hx => absurd (h.done_flight o hx) ho

theorem owned_releaseVerdict {s : State} {x : Option Candidate} (h : s.Owned x) : s.releaseVerdict.Owned x := by
  rcases s.releaseVerdict_eq with e | ⟨o, ho, e⟩ <;> rw [e]
  · exact h
  · exact owned_setObl_of_reserved h (by rw [ho]; exact OblState.noConfusion) _

theorem owned_openObligation {s : State} {x : Option Candidate} (h : s.Owned x) : s.openObligation.1.Owned x := by
  unfold State.openObligation
  split
  · split
    next ho =>
      exact owned_congr (owned_setObl_of_reserved h (by rw [ho]; exact OblState.noConfusion) _) rfl rfl rfl
    · exact owned_congr h rfl rfl rfl
  · exact owned_congr (owned_releaseVerdict h) rfl rfl rfl

/-- The first entry of a kind that holds a tag. -/
theorem holderOf_some {s : State} {states : List OblState} {tag : CallTag} {o : Fin 8}
    (h : s.holderOf states tag = some o) : (s.obl o).state ∈ states ∧ (s.obl o).tag = tag := by
  have := List.find?_some h
  simpa using this

theorem lowestFreeObl_some {s : State} {o : Fin 8} (h : s.lowestFreeObl = some o) : (s.obl o).state = .free := by
  have := List.find?_some h
  simpa using this

theorem owned_takeVerdict {s : State} {x : Option Candidate} (h : s.Owned x) (tag : CallTag) (topic : Topic)
    (f : Fin 16) : (s.takeVerdict tag topic f).1.Owned x := by
  have reserve {t : State} (ht : t.Owned x) {o : Fin 8} (ho : (s.obl o).state = .free) :
      (t.reserveObl o tag topic f).Owned x :=
    owned_setObl ht o fun hx => by
      have := h.done_flight o hx
      rw [ho] at this
      cases this
  unfold State.takeVerdict
  split
  · exact h
  · split
    next o ho =>
      refine reserve ?_ (lowestFreeObl_some ho)
      unfold State.supersede
      split
      next w hw =>
        have hstate : (s.obl w).state = .withdrawn := by simpa using (holderOf_some hw).1
        exact owned_congr (owned_setObl_of_reserved h (by rw [hstate]; exact OblState.noConfusion) _) rfl rfl rfl
      · exact h
    · exact h

end Sys2Proof.Machine
end

section
/-! SUPPORT. The choice held stands, and with the tables of the owners in order, through every row (R62, R63, R65,
R67). -/

namespace Sys2Proof.Machine

/-! ## Takings and choices alone -/

/-- What takings, choices and counted edges keep; no frame arrives among them. -/
structure TakesKept (P : State → Prop) : Prop where
  free : ∀ s n, P s → P { s with freeCount := n }
  fire : ∀ s r, s.lc.state ≠ .config → (s.run r).arm = .armed → P s → P (s.fire r).state
  suppress : ∀ s r o root, P s → P (s.suppress r o root)
  choose : ∀ s, P s → P (State.arbiter s)
  count : ∀ s c k e, P s → P (State.countEdge s c k e).1

/-- A task of the Reaction Engine, the arbiter or a counter. -/
def Task.plain : Task → Bool
  | .take _ | .choose | .count _ _ _ => true
  | .matchFrame _ | .openObligation | .doneArrival _ | .withdrawArrival _ => false

/-- Only such tasks wait. -/
def OnlyPlain (series : List (List Task)) : Prop := ∀ q ∈ series, ∀ t ∈ q, t.plain = true

theorem onlyPlain_of_takings {series : List (List Task)} (h : OnlyTakings series) : OnlyPlain series := by
  intro q hq t ht
  obtain ⟨o, rfl⟩ := h q hq t ht
  rfl

/-- The series after one of its tasks is carried out. -/
theorem onlyPlain_step {series live : List (List Task)} {n : Nat} {t : Task} {rest : List Task} {occ : List Occurrence}
    (h : OnlyPlain series) (hl : live = series.filter fun q => !q.isEmpty) (hget : live[n]? = some (t :: rest)) :
    t.plain = true ∧ OnlyPlain (live.set n (occ.map .take ++ rest)) := by
  have hlive : OnlyPlain live := fun q hq => h q (List.mem_of_mem_filter (hl ▸ hq))
  have hmem := List.mem_of_getElem? hget
  refine ⟨hlive _ hmem t List.mem_cons_self, fun q hq => ?_⟩
  rcases List.mem_or_eq_of_mem_set hq with h1 | rfl
  · exact hlive q h1
  · intro u hu
    rcases List.mem_append.mp hu with hu | hu
    · obtain ⟨o, -, rfl⟩ := List.mem_map.mp hu
      rfl
    · exact hlive _ hmem u (List.mem_cons_of_mem _ hu)

theorem nextSeries_keeps {P : State → Prop} (free : ∀ s n, P s → P { s with freeCount := n }) {s : State}
    (live : List (List Task)) (h : P s) : P (nextSeries s live).2 := by
  unfold nextSeries
  split
  · exact free _ _ h
  · exact h

namespace TakesKept
variable {P : State → Prop} (K : TakesKept P)
include K

theorem take (s : State) (o : Occurrence) (h : P s) : P (s.take o) := by
  unfold State.take
  split
  · exact h
  next hc => exact (taking_keeps_joined K.fire K.suppress _ _ o s hc h).2

theorem task (s : State) {t : Task} (ht : t.plain = true) (h : P s) : P (t.run s).1 := by
  cases t with
  | take o => exact K.take s o h
  | choose => exact K.choose s h
  | count c k e => exact K.count s c k e h
  | _ => cases ht

theorem settleTasks (s : State) (series : List (List Task)) (only : OnlyPlain series) (h : P s) :
    P (s.settleTasks series) := by
  suffices key : ∀ n series s, OnlyPlain series → P s → P (runTasks n series s) from key _ _ _ only h
  intro n
  induction n with
  | zero => exact fun _ _ _ hs => hs
  | succ n ih =>
    intro series s only hs
    unfold runTasks
    dsimp only
    split
    next t rest hget =>
      obtain ⟨ht, hrest⟩ := onlyPlain_step only rfl hget
      exact ih _ _ hrest (K.task _ ht (nextSeries_keeps K.free _ hs))
    · exact hs

/-- A forced firing with the rest of its chain (R153). -/
theorem force (s : State) (r : Fin 24) (hc : s.lc.state ≠ .config) (ha : (s.run r).arm = .armed) (h : P s) :
    P ((s.fire r).state.takeForced r ((s.fire r).follow r)) := by
  unfold State.takeForced
  refine (foldl_keeps (P := fun t => t.lc.state ≠ .config ∧ P t) _ ?_ _ _
    ⟨by rw [fire_linkState]; exact hc, K.fire s r hc ha h⟩).2
  exact fun t x ht => taking_keeps_joined K.fire K.suppress _ _ x t ht.1 ht.2

end TakesKept

theorem TasksKept.takes {P : State → Prop} (K : TasksKept P) : TakesKept P :=
  ⟨K.free, K.fire, K.suppress, K.choose, K.count⟩

theorem TakesKept.and {P Q : State → Prop} (K : TakesKept P) (H : TakesKept Q) : TakesKept fun s => P s ∧ Q s where
  free s n h := h.imp (K.free s n) (H.free s n)
  fire s r hc ha h := h.imp (K.fire s r hc ha) (H.fire s r hc ha)
  suppress s r o root h := h.imp (K.suppress s r o root) (H.suppress s r o root)
  choose s h := h.imp (K.choose s) (H.choose s)
  count s c k e h := h.imp (K.count s c k e) (H.count s c k e)

/-! ## What host commands hand on -/

theorem onlyTakings_nil : OnlyTakings [] := fun _ hq => absurd hq List.not_mem_nil

theorem onlyTakings_indexed {n : Nat} [NeZero n] {s : State} (b : Byte) {body : Fin n → State → Taken}
    (h : ∀ i, OnlyTakings (body i s).series) : OnlyTakings (indexed n b body s).series := by
  unfold indexed
  split
  · exact h _
  · exact onlyTakings_nil

theorem onlyTakings_afterJoin {s : State} {body : State → Taken} (h : OnlyTakings (body s).series) :
    OnlyTakings (afterJoin body s).series := by
  unfold afterJoin
  split
  · exact onlyTakings_nil
  · exact h

theorem onlyTakings_leave (s : State) : OnlyTakings (takeLeave s).series := by
  by_cases hs : s.lc.state = .config ∨ s.lc.state = .offline
  · rcases hs with hs | hs <;> simp only [takeLeave, hs] <;> exact onlyTakings_nil
  · obtain ⟨hc, ho⟩ := not_or.mp hs
    rw [takeLeave_of_joined hc ho]
    exact onlyTakings_append (onlyTakings_inSeries _) (onlyTakings_inSeries _)

theorem onlyTakings_load (s : State) (kind index : Byte) (f : Vector Byte 11) :
    OnlyTakings (takeLoad kind index f s).series := by
  unfold takeLoad
  split
  · exact onlyTakings_nil
  · split
    · exact onlyTakings_nil
    · split
      · exact onlyTakings_nil
      · split <;> exact onlyTakings_nil

theorem onlyTakings_slotRequest (s : State) (i : Fin 8) : OnlyTakings (takeSlotRequest i s).series := by
  unfold takeSlotRequest
  split
  iterate 2 exact onlyTakings_nil
  all_goals split <;> exact onlyTakings_nil

theorem onlyTakings_slotWrite (s : State) (content : Option Slot) (i : Fin 8) :
    OnlyTakings (takeSlotWrite content i s).series := by
  unfold takeSlotWrite
  split
  iterate 2 exact onlyTakings_nil
  all_goals split <;> exact onlyTakings_nil

theorem onlyTakings_join (s : State) : OnlyTakings (takeJoin s).series := by
  unfold takeJoin
  split
  · split <;> exact onlyTakings_nil
  all_goals exact onlyTakings_nil

/-- What a taking hands on are occurrences. -/
theorem onlyTakings_takenBy (c : Instr) (s : State) : OnlyTakings (takenBy c s).series := by
  cases c with
  | join => exact onlyTakings_join s
  | leave => exact onlyTakings_leave s
  | holdAssert => simp only [takenBy, takeHoldAssert]; split <;> exact onlyTakings_nil
  | load kind index fields => exact onlyTakings_load s kind index fields
  | slotWrite slot => exact onlyTakings_indexed slot (onlyTakings_slotWrite s _)
  | slotRequest slot => exact onlyTakings_indexed slot (onlyTakings_slotRequest s)
  | slotAbort slot =>
    refine onlyTakings_indexed slot fun i => ?_
    unfold takeSlotAbort
    split
    · exact onlyTakings_separately _
    all_goals exact onlyTakings_nil
  | slotClear slot =>
    refine onlyTakings_indexed slot fun i => ?_
    unfold takeSlotClear
    split <;> exact onlyTakings_nil
  | rxRead => simp only [takenBy, takeRxRead]; split <;> exact onlyTakings_nil
  | rxRelease => simp only [takenBy, takeRxRelease]; split <;> exact onlyTakings_nil
  | callWithdraw entry =>
    refine onlyTakings_indexed entry fun k => ?_
    unfold takeCallWithdraw
    split <;> exact onlyTakings_nil
  | callClear entry =>
    refine onlyTakings_indexed entry fun k => ?_
    unfold takeCallClear
    split <;> exact onlyTakings_nil
  | oblFinish entry =>
    simp only [takenBy]
    split
    · exact onlyTakings_nil
    · refine onlyTakings_indexed entry fun o => ?_
      unfold takeOblFinish
      split <;> exact onlyTakings_nil
  | oblDiscard entry =>
    refine onlyTakings_indexed entry fun o => ?_
    unfold takeOblDiscard
    split
    · split <;> exact onlyTakings_nil
    all_goals exact onlyTakings_nil
  | reactArm reaction => exact onlyTakings_indexed reaction fun _ => onlyTakings_afterJoin onlyTakings_nil
  | reactDisarm reaction => exact onlyTakings_indexed reaction fun _ => onlyTakings_afterJoin onlyTakings_nil
  | reactForce reaction =>
    refine onlyTakings_indexed reaction fun r => onlyTakings_afterJoin ?_
    unfold takeReactForce
    split <;> exact onlyTakings_nil
  | timerStart timer => exact onlyTakings_indexed timer fun _ => onlyTakings_afterJoin onlyTakings_nil
  | timerStop timer => exact onlyTakings_indexed timer fun _ => onlyTakings_afterJoin onlyTakings_nil
  | timerLimit timer =>
    simp only [takenBy]
    split
    · exact onlyTakings_nil
    · refine onlyTakings_indexed timer fun t => onlyTakings_afterJoin ?_
      unfold takeTimerLimit
      split
      · exact onlyTakings_separately _
      · exact onlyTakings_nil
  | counterClear counter => exact onlyTakings_indexed counter fun _ => onlyTakings_afterJoin onlyTakings_nil
  | trainStart train => exact onlyTakings_indexed train fun _ => onlyTakings_afterJoin onlyTakings_nil
  | trainStop train =>
    exact onlyTakings_indexed train fun _ => onlyTakings_afterJoin (onlyTakings_separately _)
  | outputWrite lines levels =>
    refine onlyTakings_afterJoin ?_
    unfold takeOutputWrite
    split <;> exact onlyTakings_nil
  | detailRead selector => simp only [takenBy, takeDetailRead]; split <;> exact onlyTakings_nil
  | enableWrite enables => simp only [takenBy, takeEnableWrite]; split <;> exact onlyTakings_nil
  | slotRead b => exact onlyTakings_indexed b fun _ => onlyTakings_nil
  | callRead b => exact onlyTakings_indexed b fun _ => onlyTakings_nil
  | oblRead b => exact onlyTakings_indexed b fun _ => onlyTakings_nil
  | reactRead b => exact onlyTakings_indexed b fun _ => onlyTakings_nil
  | timerRead b => exact onlyTakings_indexed b fun _ => onlyTakings_nil
  | counterRead b => exact onlyTakings_indexed b fun _ => onlyTakings_nil
  | trainRead b => exact onlyTakings_indexed b fun _ => onlyTakings_nil
  | _ => exact onlyTakings_nil

/-- What the port, the taking and the takings handed on keep, a host command keeps. -/
theorem command_keeps_takes {P : State → Prop} (T : TakesKept P) (port : ∀ s t, PortStep s t → P s → P t)
    (hp : ∀ s x, P s → P { s with hp := x }) (took : ∀ s t, Took s t → P s → P t) (c : Instr) (s : State)
    (h : P s) : P (s.hostCommand c (takenBy c)) := by
  unfold State.hostCommand
  split
  · exact h
  next hr =>
    have begun : P (s.beginTransaction ((encodeCommand c).getD [])) := by
      unfold State.beginTransaction
      split
      · exact h
      refine port _ _ .fall ?_
      by_cases hd : s.hp.phase = .deselected
      · unfold State.riseHcs
        dsimp only
        split
        · exact hp _ _ (port _ _ (.reset false false) h)
        · exact hp _ _ h
      · exact port _ _ (.rise true hd hr) h
    exact T.settleTasks _ _ (onlyPlain_of_takings (onlyTakings_takenBy c _))
      (hp _ _ (took _ _ (took_takenBy c _) begun))

end Sys2Proof.Machine
end

section
/-! SUPPORT. The choice held stands, and the tables of the owners are in order, through every row (R62, R63, R65,
R67). -/

namespace Sys2Proof.Machine

/-! ## The choice held -/

/-- A choice is held only where one may be, and of a candidate. -/
def State.Stands (s : State) : Prop :=
  ∀ c, s.lc.choice = some c → s.mayChoose = true ∧ s.isCandidate c.candidate = true

theorem stands_arbiter (s : State) : s.arbiter.Stands := fun c hc => by
  rw [State.mayChoose_arbiter, State.isCandidate_arbiter]
  exact s.arbiter_choice_stands hc

theorem stands_of_none {s : State} (h : s.lc.choice = none) : s.Stands := fun c hc => by
  rw [h] at hc
  cases hc

theorem State.Stands.none_of_not {s : State} (h : s.Stands) (hm : s.mayChoose = false) : s.lc.choice = none := by
  cases hc : s.lc.choice with
  | none => rfl
  | some c => exact absurd (h c hc).1 (by simp [hm])

/-- The choice held is left, and so are its permission and what makes it a candidate. -/
theorem stands_of {s t : State} (h : s.Stands) (hc : t.lc.choice = s.lc.choice)
    (hm : s.mayChoose = true → t.mayChoose = true)
    (hx : ∀ x, s.isCandidate x = true → t.isCandidate x = true) : t.Stands := fun c ht =>
  have hs := h c (hc.symm.trans ht)
  ⟨hm hs.1, hx _ hs.2⟩

theorem mayChoose_iff (s : State) : s.mayChoose = true ↔ s.lc.state = .active ∧ s.lc.held = false
    ∧ s.lc.holdFlag = false ∧ s.lc.pulse = 0 ∧ s.lc.phase = .idle ∧ s.lc.inFlight = none := by
  simp [State.mayChoose, State.permission, State.ownHold, and_assoc]

theorem not_mayChoose_of_phase {s : State} (hp : s.lc.phase ≠ .idle) : s.mayChoose = false :=
  Bool.eq_false_iff.mpr fun hm => hp ((mayChoose_iff s).mp hm).2.2.2.2.1

theorem not_mayChoose_of_state {s : State} (hp : s.lc.state ≠ .active) : s.mayChoose = false :=
  Bool.eq_false_iff.mpr fun hm => hp ((mayChoose_iff s).mp hm).1

theorem not_mayChoose_of_flight {s : State} (hp : s.lc.inFlight.isSome = true) : s.mayChoose = false :=
  Bool.eq_false_iff.mpr fun hm => by simp [((mayChoose_iff s).mp hm).2.2.2.2.2] at hp

/-! ## The joint invariant -/

/-- The tables of the owners in order, and the choice held standing. -/
def State.Joint (s : State) : Prop := s.Owned s.lc.inFlight ∧ s.Stands

/-- What the joint invariant rests on is the same. -/
theorem joint_congr {s t : State} (h : s.Joint) (hl : t.lc = { s.lc with stats := t.lc.stats })
    (ho : t.outbox = s.outbox) (hc : t.cu = s.cu) (he : t.ou.entries = s.ou.entries) : t.Joint := by
  have hflight : t.lc.inFlight = s.lc.inFlight := by rw [hl]
  have hmay : t.mayChoose = s.mayChoose := by
    unfold State.mayChoose State.permission State.ownHold
    rw [hl]
  refine ⟨by rw [hflight]; exact owned_congr h.1 ho hc he, stands_of h.2 (by rw [hl]) (fun hm => hmay.trans hm) ?_⟩
  intro x hx
  rw [← hx]
  unfold State.isCandidate State.slot State.call State.obl
  rw [ho, hc, he, hflight]

/-- After the arbiter only the tables are to be looked at. -/
theorem joint_arbiter {s : State} (h : s.Owned s.lc.inFlight) : s.arbiter.Joint :=
  ⟨by rw [State.arbiter_inFlight]; exact owned_arbiter h, stands_arbiter s⟩

/-- A slot written that was PENDING neither before nor after, or is left as a candidate. -/
theorem stands_setSlot {s : State} (h : s.Stands) (i : Fin 8) {y : Slot}
    (hy : (s.slot i).state = .pending → y.state = .pending) : (s.setSlot i y).Stands := by
  refine stands_of h rfl id fun x hx => ?_
  cases x with
  | slot j =>
    simp only [State.isCandidate, beq_iff_eq] at hx ⊢
    rw [State.slot_setSlot]
    split
    next hj => exact hy (hj ▸ hx)
    · exact hx
  | obligation o => exact hx
  | withdraw k => exact hx

theorem stands_setCall {s : State} (h : s.Stands) (k : Fin 8) {e : CallEntry}
    (he : (s.call k).withdrawPending = true → e.withdrawPending = true) : (s.setCall k e).Stands := by
  refine stands_of h rfl id fun x hx => ?_
  cases x with
  | slot j => exact hx
  | obligation o => exact hx
  | withdraw j =>
    simp only [State.isCandidate, Bool.and_eq_true] at hx ⊢
    refine ⟨?_, hx.2⟩
    rw [State.call_setCall]
    split
    next hj => exact he (hj ▸ hx.1)
    · exact hx.1

theorem stands_setObl {s : State} (h : s.Stands) (o : Fin 8) {e : Obligation}
    (he : (s.obl o).state = .finishing → e.state = .finishing) : (s.setObl o e).Stands := by
  refine stands_of h rfl id fun x hx => ?_
  cases x with
  | slot j => exact hx
  | obligation p =>
    simp only [State.isCandidate, Bool.and_eq_true, beq_iff_eq] at hx ⊢
    refine ⟨?_, hx.2⟩
    rw [State.obl_setObl]
    split
    next hp => exact he (hp ▸ hx.1)
    · exact hx.1
  | withdraw j => exact hx

/-! ## Owners -/

theorem joint_requestSlot {s : State} (h : s.Joint) (i : Fin 8) : (s.requestSlot i).1.Joint := by
  have hflight : (s.requestSlot i).1.lc.inFlight = s.lc.inFlight := by rw [requestSlot_lc]
  refine ⟨by rw [hflight]; exact owned_requestSlot h.1 i, ?_⟩
  have asked {t : State} (ht : s.newRequest i = some t) : t.Stands := by
    unfold State.newRequest at ht
    split at ht
    · cases ht
      exact stands_arbiter _
    · split at ht <;> cases ht
      exact stands_arbiter _
  unfold State.requestSlot
  split
  iterate 2 exact h.2
  next hs => exact stands_setSlot h.2 i fun hp => absurd (hs.symm.trans hp) SlotState.noConfusion
  all_goals
    split
    next ht => exact asked ht
    · exact h.2

theorem joint_settleCall {s : State} (h : s.Joint) (k : Fin 8) (o : CallOutcome) (hr : (s.call k).state ≠ .reserved)
    (hw : s.lc.inFlight ≠ some (.withdraw k)) : (s.settleCall k o).Joint := by
  have hf := (OwnersFrame.refl s).settleCall k o
  exact ⟨by rw [hf.inFlight]; exact owned_settleCall h.1 k o hr hw, by rw [settleCall_written]; exact stands_arbiter _⟩

theorem Acts.joint {s t : State} {r : Fin 24} (ht : Acts s r t) (h : s.Joint) : t.Joint := by
  have same {u : State} (hl : u.lc = s.lc) (ho : u.outbox = s.outbox) (hc : u.cu = s.cu)
      (he : u.ou.entries = s.ou.entries) : u.Joint := joint_congr h (by rw [hl]) ho hc he
  cases ht with
  | send i => exact joint_requestSlot h i
  | timerStart t parameter =>
    obtain ⟨x, hx⟩ := actTimerStart_frame s t parameter
    rw [hx]
    exact same rfl rfl rfl rfl
  | trainStop g => rcases stopTrain_frame s g with e | ⟨x, e⟩ <;> rw [e] <;> exact same rfl rfl rfl rfl
  | arm q => rcases s.armReaction_eq q with e | ⟨x, e⟩ <;> rw [e] <;> exact same rfl rfl rfl rfl
  | disarm q => rcases s.disarmReaction_eq q with e | ⟨x, e⟩ <;> rw [e] <;> exact same rfl rfl rfl rfl
  | finish o status ho =>
    exact joint_arbiter (owned_setObl_of_reserved h.1 (by rw [ho]; exact OblState.noConfusion) _)
  | holdPulse parameter hs => exact joint_arbiter (owned_congr h.1 rfl rfl rfl)
  | _ => exact same rfl rfl rfl rfl

theorem noteRefusal_tables (s : State) (r : Fin 24) (x : ActionResult) : (s.noteRefusal r x).outbox = s.outbox
    ∧ (s.noteRefusal r x).cu = s.cu ∧ (s.noteRefusal r x).ou = s.ou := by
  cases x <;> exact ⟨rfl, rfl, rfl⟩

theorem joint_fire {s : State} (r : Fin 24) (h : s.Joint) : (s.fire r).state.Joint := by
  have hperf := (acts_perform s r).joint h
  unfold State.fire
  dsimp only
  obtain ⟨hout, hcu, hou⟩ := noteRefusal_tables ((s.perform r).state.setRun r (((s.perform r).state.run r).fired
    (s.reaction r).budget s.now (s.perform r).result)) r (s.perform r).result
  exact joint_congr hperf (by rw [noteRefusal_lc]; rfl) hout hcu (by rw [hou]; rfl)

theorem takesKept_joint : TakesKept State.Joint where
  free _ _ h := joint_congr h rfl rfl rfl rfl
  fire _ r _ _ h := joint_fire r h
  suppress _ _ _ _ h := joint_congr h rfl rfl rfl rfl
  choose _ h := joint_arbiter h.1
  count s c k e h := by
    unfold State.countEdge
    dsimp only
    split
    · exact joint_congr h rfl rfl rfl rfl
    · exact h

/-! ## Frames received, on which nothing is in flight -/

theorem joint_doneArrival {s : State} (hx : s.lc.inFlight = none) (h : s.Joint) (x : RxFrame) :
    (s.doneArrival x).1.Joint := by
  have howned : s.Owned none := by rw [← hx]; exact h.1
  have hf := (OwnersFrame.refl s).doneArrival x
  refine ⟨by rw [hf.inFlight, hx]; exact owned_doneArrival howned x, ?_⟩
  unfold State.doneArrival
  dsimp only
  split
  · unfold State.collectDone
    dsimp only
    split
    · rw [settleCall_written]
      exact stands_arbiter _
    · exact stands_setCall h.2 _ id
  · split
    · exact stands_of (stands_setCall h.2 _ (e := { s.call _ with
        results := (s.call _).results ++ [x.result true s.now]
        unanswered := (s.call _).unanswered.erase x.source }) id) rfl id fun y hy => by cases y <;> exact hy
    · exact stands_of h.2 rfl id fun y hy => by cases y <;> exact hy

theorem joint_withdrawArrival {s : State} (h : s.Joint) (x : RxFrame) : (s.withdrawArrival x).1.Joint := by
  have hf := (OwnersFrame.refl s).withdrawArrival x
  refine ⟨by rw [hf.inFlight]; exact owned_withdrawArrival h.1 rfl x, ?_⟩
  unfold State.withdrawArrival
  split
  · split
    · exact h.2
    · exact stands_arbiter _
  · exact h.2

theorem stands_releaseVerdict {s : State} (h : s.Stands) : s.releaseVerdict.Stands := by
  rcases s.releaseVerdict_eq with e | ⟨o, ho, e⟩ <;> rw [e]
  · exact h
  · exact stands_setObl h o fun hf => absurd (ho.symm.trans hf) OblState.noConfusion

theorem joint_openObligation {s : State} (h : s.Joint) : s.openObligation.1.Joint := by
  have hf := (OwnersFrame.refl s).openObligation
  refine ⟨by rw [hf.inFlight]; exact owned_openObligation h.1, ?_⟩
  have same {t u : State} (ht : t.Stands) (hl : u.lc = t.lc) (ho : u.outbox = t.outbox) (hc : u.cu = t.cu)
      (he : u.ou.entries = t.ou.entries) : u.Stands := by
    refine stands_of ht (by rw [hl]) ?_ fun x hx => ?_
    · unfold State.mayChoose State.permission State.ownHold
      rw [hl]
      exact id
    · rw [← hx]
      unfold State.isCandidate State.slot State.call State.obl
      rw [ho, hc, he, hl]
  unfold State.openObligation
  split
  · split
    next o ho =>
      exact same (stands_setObl h.2 _ fun hf => absurd (ho.symm.trans hf) OblState.noConfusion) rfl rfl rfl rfl
    · exact same h.2 rfl rfl rfl rfl
  · exact same (stands_releaseVerdict h.2) rfl rfl rfl rfl

theorem tasksKept_joint : TasksKept fun s => s.lc.inFlight = none ∧ s.Joint := by
  have L : LinkPred fun s => s.lc.inFlight = none :=
    { congr := fun _ _ h ht => by rw [ht]; exact h
      moves := fun _ _ _ _ h => h
      pulse := fun _ _ _ h => h }
  have T := L.tasksKept
  have K := takesKept_joint
  exact
    { free := fun s n h => h.imp (T.free s n) (K.free s n)
      fire := fun s r hc ha h => h.imp (T.fire s r hc ha) (K.fire s r hc ha)
      suppress := fun s r o root h => h.imp (T.suppress s r o root) (K.suppress s r o root)
      matchFrame := fun s x h => by
        refine h.imp (T.matchFrame s x) fun hj => ?_
        rw [matchFrame_frame]
        exact joint_congr hj rfl rfl rfl rfl
      openObligation := fun s h => h.imp (T.openObligation s) joint_openObligation
      doneArrival := fun s x h => ⟨T.doneArrival s x h.1, joint_doneArrival h.1 h.2 x⟩
      withdrawArrival := fun s x h => h.imp (T.withdrawArrival s x) fun hj => joint_withdrawArrival hj x
      choose := fun s h => h.imp (T.choose s) (K.choose s)
      count := fun s c k e h => h.imp (T.count s c k e) (K.count s c k e) }

end Sys2Proof.Machine
end

section
/-! SUPPORT. The choice that an instant ends with, and the joint invariant through the events of the line (R63, R66). -/

namespace Sys2Proof.Machine

/-! ## The choice is made once in an instant whose tasks hand on nothing -/

theorem Acts.owned {s t : State} {r : Fin 24} {x : Option Candidate} (ht : Acts s r t) (h : s.Owned x) :
    t.Owned x := by
  have same {u : State} (ho : u.outbox = s.outbox) (hc : u.cu = s.cu) (he : u.ou.entries = s.ou.entries) :
      u.Owned x := owned_congr h ho hc he
  cases ht with
  | send i => exact owned_requestSlot h i
  | timerStart t parameter =>
    obtain ⟨y, hy⟩ := actTimerStart_frame s t parameter
    rw [hy]
    exact same rfl rfl rfl
  | trainStop g => rcases stopTrain_frame s g with e | ⟨y, e⟩ <;> rw [e] <;> exact same rfl rfl rfl
  | arm q => rcases s.armReaction_eq q with e | ⟨y, e⟩ <;> rw [e] <;> exact same rfl rfl rfl
  | disarm q => rcases s.disarmReaction_eq q with e | ⟨y, e⟩ <;> rw [e] <;> exact same rfl rfl rfl
  | finish o status ho =>
    exact owned_arbiter (owned_setObl_of_reserved h (by rw [ho]; exact OblState.noConfusion) _)
  | holdPulse parameter hs => exact owned_arbiter (owned_congr h rfl rfl rfl)
  | _ => exact same rfl rfl rfl

theorem takesKept_owned (x : Option Candidate) : TakesKept fun s => s.Owned x where
  free _ _ h := owned_congr h rfl rfl rfl
  fire s r _ _ h := by
    unfold State.fire
    dsimp only
    obtain ⟨hout, hcu, hou⟩ := noteRefusal_tables ((s.perform r).state.setRun r (((s.perform r).state.run r).fired
      (s.reaction r).budget s.now (s.perform r).result)) r (s.perform r).result
    exact owned_congr ((acts_perform s r).owned h) hout hcu (by rw [hou]; rfl)
  suppress _ _ _ _ h := owned_congr h rfl rfl rfl
  choose _ h := owned_arbiter h
  count s c k e h := by
    unfold State.countEdge
    dsimp only
    split
    · exact owned_congr h rfl rfl rfl
    · exact h

/-- The first task of one series taken out. -/
theorem flatten_set_perm {α : Type} {l : List (List α)} {n : Nat} {t : α} {rest : List α}
    (h : l[n]? = some (t :: rest)) : l.flatten.Perm (t :: (l.set n rest).flatten) := by
  induction l generalizing n with
  | nil => simp at h
  | cons a l ih =>
    cases n with
    | zero =>
      cases Option.some.inj h
      exact List.Perm.refl _
    | succ n =>
      rw [List.getElem?_cons_succ] at h
      rw [List.set_cons_succ, List.flatten_cons, List.flatten_cons]
      exact ((ih h).append_left a).trans List.perm_middle

/-- The series that goes next has an event. -/
theorem nextSeries_lt (s : State) {live : List (List Task)} (h : live ≠ []) : (nextSeries s live).1 < live.length := by
  have hpos : 0 < live.length := List.length_pos_iff.mpr h
  unfold nextSeries
  split
  · exact Nat.mod_lt _ hpos
  · exact hpos

/-- Where the tasks hand on nothing and one of them is the choice, the choice held at the end stands. -/
theorem settleTasks_chooses {x : Option Candidate} (L : LinkPred fun s => s.lc.inFlight = x)
    {series : List (List Task)} (quiet : ∀ t ∈ series.flatten, t = .choose ∨ ∃ o, t = .take o)
    (few : series.flatten.length ≤ 64) (hc : Task.choose ∈ series.flatten) {s : State} (hx : s.lc.inFlight = x)
    (h : s.Owned x) : (s.settleTasks series).Joint := by
  have W := L.tasksKept.takes.and (takesKept_owned x)
  suffices key : ∀ n series s, (∀ t ∈ series.flatten, t = Task.choose ∨ ∃ o, t = .take o) → series.flatten.length ≤ n →
      s.lc.inFlight = x ∧ s.Owned x → s.Joint ∨ Task.choose ∈ series.flatten → (runTasks n series s).Joint from
    key 64 series s quiet few ⟨hx, h⟩ (.inr hc)
  intro n
  induction n with
  | zero =>
    intro series s _ hlen _ hj
    refine hj.resolve_right fun hm => ?_
    rw [List.length_eq_zero_iff.mp (Nat.le_zero.mp hlen)] at hm
    exact absurd hm List.not_mem_nil
  | succ n ih =>
    intro series s hquiet hlen hw hj
    have hflat : (series.filter fun q => !q.isEmpty).flatten = series.flatten := List.flatten_filter_not_isEmpty
    have hw' := nextSeries_keeps W.free (series.filter fun q => !q.isEmpty) hw
    have hj' (h : s.Joint) := nextSeries_keeps takesKept_joint.free (series.filter fun q => !q.isEmpty) h
    unfold runTasks
    dsimp only
    split
    next t rest hget =>
      have hperm := flatten_set_perm hget
      rw [hflat] at hperm
      have ht := hquiet t (hperm.mem_iff.mpr List.mem_cons_self)
      have hnone : (t.run (nextSeries s (series.filter fun q => !q.isEmpty)).2).2 = [] := by
        rcases ht with rfl | ⟨o, rfl⟩ <;> rfl
      rw [hnone, List.map_nil, List.nil_append]
      have hplain : t.plain = true := by rcases ht with rfl | ⟨o, rfl⟩ <;> rfl
      refine ih _ _ (fun u hu => hquiet u (hperm.mem_iff.mpr (List.mem_cons_of_mem _ hu))) ?_ (W.task _ hplain hw') ?_
      · have := hperm.length_eq
        rw [List.length_cons] at this
        omega
      · by_cases htc : t = .choose
        · rw [htc]
          refine .inl (joint_arbiter ?_)
          rw [hw'.1]
          exact hw'.2
        · refine hj.imp (fun h => takesKept_joint.task _ hplain (hj' h)) fun hm => ?_
          exact (List.mem_cons.mp (hperm.mem_iff.mp hm)).resolve_left fun e => htc e.symm
    next hget =>
      refine hj.resolve_right fun hm => ?_
      have hne : (series.filter fun q => !q.isEmpty) ≠ [] := fun hnil => by
        rw [← hflat, hnil] at hm
        exact absurd hm List.not_mem_nil
      have hlt := nextSeries_lt s hne
      cases hq : (series.filter fun q => !q.isEmpty)[(nextSeries s (series.filter fun q => !q.isEmpty)).1] with
      | nil =>
        have := (List.mem_filter.mp (List.getElem_mem hlt)).2
        rw [hq] at this
        cases this
      | cons t rest => exact hget t rest (by rw [List.getElem?_eq_getElem hlt, hq])

/-! ## Events of the line -/

theorem linkPred_flight (x : Option Candidate) : LinkPred fun s => s.lc.inFlight = x where
  congr _ _ h ht := by rw [ht]; exact h
  moves _ _ _ _ h := h
  pulse _ _ _ h := h

theorem handInFlight_length (s : State) (c : TxCode) (l : List Byte) : (s.handInFlight c l).2.length ≤ 2 := by
  unfold State.handInFlight
  split
  · exact (handOutcome_handed s _ c l).2
  · exact Nat.zero_le 2

theorem separately_flatten (l : List Occurrence) : (separately l).flatten = l.map .take := by
  induction l with
  | nil => rfl
  | cons o l ih =>
    simp only [separately, List.map_cons, List.flatten_cons, List.singleton_append] at ih ⊢
    rw [ih]

theorem onlyPlain_separately (l : List Occurrence) : OnlyPlain (separately l) :=
  onlyPlain_of_takings (onlyTakings_separately l)

theorem onlyPlain_append {a b : List (List Task)} (ha : OnlyPlain a) (hb : OnlyPlain b) : OnlyPlain (a ++ b) :=
  fun q hq => (List.mem_append.mp hq).elim (ha q) (hb q)

theorem onlyPlain_single {t : Task} (ht : t.plain = true) : OnlyPlain [[t]] := by
  intro q hq u hu
  rw [List.mem_singleton.mp hq, List.mem_singleton] at hu
  rw [hu]
  exact ht

/-- A choice that ripens still stands. -/
theorem joint_ripen {s : State} (h : s.Joint) : s.ripen.Joint := by
  refine ⟨owned_congr h.1 rfl rfl rfl, fun c hc => ?_⟩
  obtain ⟨d, hd, rfl⟩ := Option.map_eq_some_iff.mp hc
  have := h.2 d hd
  exact ⟨this.1, (s.isCandidate_setChoice _ _).trans this.2⟩

/-- The Link Controller written, what is in flight left, and no choice held. -/
theorem joint_setLc {s : State} (h : s.Joint) {lc : LinkController} (hx : lc.inFlight = s.lc.inFlight)
    (hc : lc.choice = none) : (s.setLc lc).Joint :=
  ⟨by rw [State.setLc, hx]; exact owned_congr h.1 rfl rfl rfl, stands_of_none hc⟩

theorem joint_due {s : State} (h : s.Joint) (due : List LineEvent) : (s.setLc { s.lc with due := due }).Joint :=
  ⟨owned_congr h.1 rfl rfl rfl, stands_of h.2 rfl id fun x hx => by cases x <;> exact hx⟩

theorem joint_setFlag {s : State} (h : s.Joint) (f : Flag) : (s.setFlag f).Joint :=
  joint_congr h rfl rfl rfl rfl

theorem countAttempt_tables (s : State) (c : TxCode) : (s.countAttempt c).outbox = s.outbox
    ∧ (s.countAttempt c).cu = s.cu ∧ (s.countAttempt c).ou = s.ou ∧ (s.countAttempt c).lc.inFlight = s.lc.inFlight := by
  cases c <;> exact ⟨rfl, rfl, rfl, rfl⟩

theorem afterAttempt_tables (s : State) (c : TxCode) : (s.afterAttempt c).outbox = s.outbox
    ∧ (s.afterAttempt c).cu = s.cu ∧ (s.afterAttempt c).ou = s.ou
    ∧ (s.afterAttempt c).lc.inFlight = s.lc.inFlight := by
  cases c
  case ok | lost | hold => exact ⟨rfl, rfl, rfl, rfl⟩
  all_goals
    simp only [State.afterAttempt]
    split <;> exact ⟨rfl, rfl, rfl, rfl⟩

theorem joint_settleAttempt {s : State} (h : s.Joint) (c : TxCode) : (s.settleAttempt c).Joint := by
  obtain ⟨howned, hflight⟩ := owned_handInFlight h.1 c s.responseList
  obtain ⟨ho1, hc1, hu1, hf1⟩ := countAttempt_tables (s.handInFlight c s.responseList).1 c
  obtain ⟨ho2, hc2, hu2, hf2⟩ := afterAttempt_tables ((s.handInFlight c s.responseList).1.countAttempt c) c
  have hlen := handInFlight_length s c s.responseList
  have hflat (l : List Occurrence) : (separately l ++ [[Task.choose]]).flatten = l.map .take ++ [.choose] := by
    rw [List.flatten_append, separately_flatten]
    rfl
  refine joint_ripen (settleTasks_chooses (linkPred_flight none) ?_ ?_ ?_ (hf2.trans (hf1.trans hflight))
    (owned_congr howned (ho2.trans ho1) (hc2.trans hc1) (by rw [hu2, hu1])))
  · intro t ht
    rw [hflat] at ht
    rcases List.mem_append.mp ht with ht | ht
    · obtain ⟨o, -, rfl⟩ := List.mem_map.mp ht
      exact .inr ⟨o, rfl⟩
    · exact .inl (List.mem_singleton.mp ht)
  · rw [hflat, List.length_append, List.length_map, List.length_singleton]
    omega
  · rw [hflat]
    exact List.mem_append_right _ List.mem_cons_self

theorem countReceive_tables (s : State) (c : RxCode) : (s.countReceive c).outbox = s.outbox
    ∧ (s.countReceive c).cu = s.cu ∧ (s.countReceive c).ou = s.ou := by
  cases c <;> exact ⟨rfl, rfl, rfl⟩

theorem countReceive_lc (s : State) (c : RxCode) : (s.countReceive c).lc
    = { s.lc with stats := (s.countReceive c).lc.stats } := by
  cases c <;> rfl

theorem joint_breakVerdict {s : State} (h : s.Joint) : s.breakVerdict.Joint := by
  have hf := (OwnersFrame.refl s).releaseVerdict
  refine joint_congr (s := s.releaseVerdict) ⟨?_, stands_releaseVerdict h.2⟩ rfl rfl rfl rfl
  rw [hf.inFlight]
  exact owned_releaseVerdict h.1

theorem joint_reachEod {s : State} (h : s.Joint) (hp : s.lc.phase = .frame) : s.reachEod.Joint := by
  unfold State.reachEod
  split
  · exact h
  next f hf =>
    split
    · split
      · exact h
      next flt _ =>
        have hframe := (OwnersFrame.refl s).takeVerdict f.callTag (topicOf f.bits) flt
        have hno : s.mayChoose = false := not_mayChoose_of_phase (by simp [hp])
        have hchoice := hframe.unchosen hno (h.2.none_of_not hno)
        refine ⟨?_, stands_of_none hchoice⟩
        have := owned_takeVerdict h.1 f.callTag (topicOf f.bits) flt
        rw [← hframe.inFlight] at this
        exact owned_congr this rfl rfl rfl
    · exact h

/-- The obligations, the statistics and the flags at the end of a window. -/
theorem joint_noteCrowded {s : State} (h : s.Joint) : s.noteCrowded.Joint := by
  have hf := (OwnersFrame.refl s).releaseVerdict
  have hr : s.releaseVerdict.Joint := ⟨by rw [hf.inFlight]; exact owned_releaseVerdict h.1, stands_releaseVerdict h.2⟩
  exact joint_congr hr rfl rfl rfl rfl

theorem joint_endFrame {s : State} (h : s.Joint) (hp : s.lc.phase = .frame) (hx : s.lc.inFlight = none) :
    s.endFrame.Joint := by
  have hchoice := h.2.none_of_not (not_mayChoose_of_phase (by simp [hp]))
  unfold State.endFrame
  split
  · exact h
  · have hidle : (s.setLc { s.lc with phase := .idle, frame := none }).Joint := joint_setLc h rfl hchoice
    have hnone : (s.setLc { s.lc with phase := .idle, frame := none }).lc.inFlight = none := hx
    exact joint_ripen (tasksKept_joint.settleTasks _ _ ⟨hnone, hidle⟩).2

theorem joint_beginHold {s : State} (h : s.Joint) : s.beginHold.Joint := by
  obtain ⟨howned, hflight⟩ := owned_handInFlight h.1 .hold []
  have hf := (OwnersFrame.refl (s.handInFlight .hold []).1).breakVerdict
  have hbroken : (s.handInFlight .hold []).1.breakVerdict.Owned none :=
    owned_congr (owned_releaseVerdict howned) rfl rfl rfl
  unfold State.beginHold
  dsimp only
  refine takesKept_joint.settleTasks _ _ (onlyPlain_append (onlyPlain_separately _) (onlyPlain_single rfl))
    (joint_setFlag ⟨?_, stands_of_none rfl⟩ _)
  show State.Owned _ (s.handInFlight .hold []).1.breakVerdict.lc.inFlight
  rw [hf.inFlight, hflight]
  exact owned_congr hbroken rfl rfl rfl

theorem joint_endHold {s : State} (h : s.Joint) (hp : s.lc.phase = .hold) : s.endHold.Joint := by
  have hchoice := h.2.none_of_not (not_mayChoose_of_phase (by simp [hp]))
  unfold State.endHold
  refine joint_ripen (takesKept_joint.settleTasks _ _ ?_ (joint_setFlag ?_ .holdNote))
  case refine_2 => exact joint_setLc h rfl hchoice
  exact onlyPlain_append (a := [[.take .holdEnd]]) (onlyPlain_single rfl) (onlyPlain_single rfl)

/-- A permitted event of the line. -/
theorem joint_carryOut {s : State} (h : s.Joint) {e : LineEvent} (he : s.lc.permits e = true) :
    (s.carryOut e).Joint := by
  cases e <;> simp only [LinkController.permits, Bool.and_eq_true, beq_iff_eq, bne_iff_ne] at he
  case attemptSettled c => exact joint_settleAttempt h c
  case receiveError c =>
    obtain ⟨ho, hc, hu⟩ := countReceive_tables s c
    have hcount : (s.countReceive c).Joint := joint_congr h (countReceive_lc s c) ho hc (by rw [hu])
    have hphase : (s.countReceive c).breakVerdict.lc.phase = .frame :=
      ((OwnersFrame.refl s).countReceive c).breakVerdict.phase.trans he
    have hb := joint_breakVerdict hcount
    exact joint_setLc hb rfl (hb.2.none_of_not (not_mayChoose_of_phase (by simp [hphase])))
  case peerSof => exact joint_setLc h rfl rfl
  case eodPoint => exact joint_reachEod h he
  case placed => exact joint_congr h rfl rfl rfl rfl
  case crowded => exact joint_noteCrowded h
  case frameEnd => exact joint_endFrame h he.1 (by simpa using he.2)
  case recoveryGap => exact joint_ripen (joint_arbiter (owned_congr h.1 rfl rfl rfl))
  case integration => exact joint_ripen (joint_arbiter (owned_congr h.1 rfl rfl rfl))
  case holdDetected => exact joint_beginHold h
  case persistenceMark =>
    simp only [State.carryOut, State.markPersistence]
    exact takesKept_joint.settleTasks _ _ (onlyPlain_single rfl) (joint_setFlag h _)
  case holdEnded => exact joint_endHold h he
  case pulseEnds => exact joint_ripen (joint_arbiter (owned_congr h.1 rfl rfl rfl))
  case quietEnds =>
    have hchoice := h.2.none_of_not (not_mayChoose_of_state (by simp [he]))
    refine joint_setFlag ?_ _
    exact joint_setLc h rfl hchoice

end Sys2Proof.Machine
end

section
/-! SUPPORT. The joint invariant of link, choice, bindings and marks through every row. -/

namespace Sys2Proof.Machine

/-! ## LEAVE -/

/-- One slot at LEAVE; the slot that was in flight is in flight no more (R61). -/
theorem owned_leaveSlot {p : State × List Occurrence} {x : Option Candidate} (h : p.1.Owned x) (i : Fin 8) :
    ∃ y, (leaveSlot p i).1.Owned y ∧ (y = none ∨ y = x) ∧ y ≠ some (.slot i) := by
  have hmarked : (p.1.slot i).state = .pending ∨ (p.1.slot i).state = .sending →
      ∃ y, ((p.1.setSlot i { p.1.slot i with rerun := false, abort := false }).arriveDone i .aborted []).1.Owned y
        ∧ (y = none ∨ y = x) ∧ y ≠ some (.slot i) := by
    intro hs
    refine ⟨if x = some (.slot i) then none else x, owned_arriveDone ?_ (by rw [State.slot_setSlot_self]) _ _, ?_, ?_⟩
    · rw [State.slot_setSlot_self, State.setSlot_setSlot]
      refine owned_setSlot h i (fun c hc => ?_) ⟨fun hn => (nomatch hn), fun hn => ?_⟩ ?_ (fun _ => rfl)
        (fun hm => hm.elim (fun hn => nomatch hn) fun hn => nomatch hn)
      · split
        next hx =>
          rw [hx]
          exact ⟨fun hn => (nomatch hn), fun hn => absurd (Option.some.inj hn).symm hc⟩
        · exact Iff.rfl
      · split at hn
        · cases hn
        next hx => exact absurd hn hx
      · exact ⟨fun hb => ⟨hb.1, hs⟩, fun hb => ⟨hb.1, .inl rfl⟩⟩
    · split
      · exact .inl rfl
      · exact .inr rfl
    · split
      · exact nofun
      next hx => exact hx
  have hdone (hs : (p.1.slot i).state ≠ .sending) : ∃ y, p.1.Owned y ∧ (y = none ∨ y = x) ∧ y ≠ some (.slot i) :=
    ⟨x, h, .inr rfl, fun hx => hs ((h.sending_iff i).mpr hx)⟩
  unfold leaveSlot
  dsimp only
  split
  next hs => exact hmarked (.inl hs)
  next hs => exact hmarked (.inr hs)
  all_goals exact hdone (by simp [*])

theorem owned_leaveSlots (l : List (Fin 8)) (p : State × List Occurrence) {x : Option Candidate} (h : p.1.Owned x) :
    ∃ y, (l.foldl leaveSlot p).1.Owned y ∧ (y = none ∨ y = x) ∧ ∀ i ∈ l, y ≠ some (.slot i) := by
  induction l generalizing p x with
  | nil => exact ⟨x, h, .inr rfl, fun i hi => absurd hi List.not_mem_nil⟩
  | cons i l ih =>
    obtain ⟨y, hy, hyx, hyi⟩ := owned_leaveSlot h i
    obtain ⟨z, hz, hzy, hzl⟩ := ih _ hy
    refine ⟨z, hz, hzy.elim .inl fun e => e ▸ hyx, fun j hj => ?_⟩
    rcases List.mem_cons.mp hj with rfl | hj
    · rcases hzy with rfl | rfl
      · exact nofun
      · exact hyi
    · exact hzl j hj

theorem owned_leaveCalls (l : List (Fin 8)) (p : State × List Occurrence) (h : p.1.Owned none) :
    (l.foldl leaveCall p).1.Owned none := by
  induction l generalizing p with
  | nil => exact h
  | cons k l ih =>
    refine ih _ ?_
    unfold leaveCall
    split
    next hs => exact owned_settleCall h k _ (by rw [hs]; exact CallState.noConfusion) nofun
    next hs => exact owned_settleCall h k _ (by rw [hs]; exact CallState.noConfusion) nofun
    all_goals exact h

theorem owned_leaveObls (l : List (Fin 8)) (s : State) (h : s.Owned none) : (l.foldl leaveObl s).Owned none := by
  refine foldl_keeps (P := fun t : State => t.Owned none) leaveObl (fun t o ht => ?_) l s h
  unfold leaveObl
  split
  · exact ht
  · exact owned_congr (owned_setObl ht o nofun) rfl rfl rfl

theorem joint_leave {s : State} (hs : s.lc.state ≠ .config) (ho : s.lc.state ≠ .offline) (h : s.Joint) :
    (takeLeave s).state.Joint := by
  have hframe := ownersFrame_takeLeave hs ho
  have all (l : List (Fin 8)) (hl : ∀ i, i ∈ l) : State.Owned ((l.foldl leaveObl (l.foldl leaveCall
      ((l.foldl leaveSlot (s.setLc s.lc.left, [])).1, [])).1).setVerdict none) none := by
    obtain ⟨y, hy, -, hyl⟩ := owned_leaveSlots l (s.setLc s.lc.left, []) (owned_congr h.1 rfl rfl rfl)
    exact owned_congr (owned_leaveObls l _ (owned_leaveCalls l (_, []) (owned_landed hy fun i => hyl i (hl i))))
      rfl rfl rfl
  refine ⟨?_, stands_of_none (hframe.unchosen (not_mayChoose_of_state LinkState.noConfusion) rfl)⟩
  rw [hframe.inFlight, takeLeave_of_joined hs ho]
  exact all _ List.mem_finRange

/-! ## Takings of host commands -/

theorem slotContent_state {priority kind : Byte} {topic deadline : BitVec 16} {length : Byte}
    {payload : Vector Byte 8} {x : Slot} (h : slotContent priority kind topic deadline length payload = some x) :
    x.state = .loaded ∧ x.rerun = false ∧ x.abort = false := by
  unfold slotContent at h
  split at h
  · cases h
  · dsimp only at h
    obtain ⟨-, hx⟩ := Option.ite_none_left_eq_some.mp h
    cases hx
    exact ⟨rfl, rfl, rfl⟩

theorem Slot.waiting_self {x : Slot} (hp : x.state = .pending) (hr : x.rerun = false) (ha : x.abort = false) :
    x.waiting = x := by
  cases x
  cases hp
  cases hr
  cases ha
  rfl

/-- A slot at rest written; it rests before and after. -/
theorem joint_setSlot_rest {s : State} (h : s.Joint) (i : Fin 8) {y : Slot} (hp : (s.slot i).state ≠ .pending)
    (hs : (s.slot i).state ≠ .sending) (hyp : y.state ≠ .pending) (hys : y.state ≠ .sending)
    (hm : y.rerun = false ∧ y.abort = false) : (s.setSlot i y).Joint := by
  have hx : s.lc.inFlight ≠ some (.slot i) := fun hx => hs ((h.1.sending_iff i).mpr hx)
  refine ⟨owned_setSlot h.1 i (fun _ _ => Iff.rfl) ⟨fun hn => absurd hn hys, fun hn => absurd hn hx⟩
    ⟨fun hb => hb.2.elim (fun hn => absurd hn hyp) fun hn => absurd hn hys,
      fun hb => hb.2.elim (fun hn => absurd hn hp) fun hn => absurd hn hs⟩
    (fun hb => hb.2.elim (fun hn => absurd hn hyp) fun hn => absurd hn hys) (fun hn => ?_),
    stands_setSlot h.2 i fun hn => absurd hn hp⟩
  rcases hn with hn | hn
  · exact absurd hn (by simp [hm.1])
  · exact absurd hn (by simp [hm.2])

theorem Took.joint {s t : State} (ht : Took s t) (h : s.LinkInv ∧ s.Joint) : t.Joint := by
  obtain ⟨hl, h⟩ := h
  have same {u : State} (hlc : u.lc = { s.lc with stats := u.lc.stats }) (ho : u.outbox = s.outbox) (hc : u.cu = s.cu)
      (he : u.ou.entries = s.ou.entries) : u.Joint := joint_congr h hlc ho hc he
  have joined (hs : s.offBus) {u : State} (hlc : u.lc = s.lc.joined s.image.station) (ho : u.outbox = s.outbox)
      (hc : u.cu = s.cu) (he : u.ou.entries = s.ou.entries) : u.Joint := by
    have hna : s.lc.state ≠ .active := fun ha => State.LinkInv.onBus_of_state (.inr (.inl ha)) hs
    have hchoice : u.lc.choice = none := by
      rw [hlc]
      exact h.2.none_of_not (not_mayChoose_of_state hna)
    have hflight := hl.no_flight hna
    refine ⟨?_, stands_of_none hchoice⟩
    rw [hlc]
    show u.Owned none
    rw [← hflight]
    exact owned_congr h.1 ho hc he
  cases ht with
  | joinConfig hs hf => exact joined (.inl hs) rfl (by rw [applyImage_frame]) (by rw [applyImage_frame]) (by rw [applyImage_frame])
  | joinOffline hs => exact joined (.inr hs) rfl rfl rfl rfl
  | leave hs ho => exact joint_leave hs ho h
  | holdAssert => exact joint_arbiter (owned_congr h.1 rfl rfl rfl)
  | holdRelease => exact joint_arbiter (owned_congr h.1 rfl rfl rfl)
  | load kind index f _ hs ht => rw [loadEntry_frame ht]; exact same rfl rfl rfl rfl
  | slotWrite priority kind topic deadline length payload x i hx hp hs =>
    obtain ⟨hstate, hm⟩ := slotContent_state hx
    exact joint_setSlot_rest h i hp hs (by rw [hstate]; exact SlotState.noConfusion)
      (by rw [hstate]; exact SlotState.noConfusion) hm
  | slotRequest i => exact joint_requestSlot h i
  | abortPending i hp =>
    have hna : (s.slot i).rerun = false ∧ (s.slot i).abort = false := by
      constructor <;> refine Bool.eq_false_iff.mpr fun hn => ?_
      · exact absurd (hp.symm.trans (h.1.marks i (.inl hn))) SlotState.noConfusion
      · exact absurd (hp.symm.trans (h.1.marks i (.inr hn))) SlotState.noConfusion
    have hwait := Slot.waiting_self hp hna.1 hna.2
    have hf := (OwnersFrame.refl s).arriveDone i .aborted []
    refine joint_arbiter ?_
    rw [hf.inFlight]
    exact owned_arriveDone (by rw [hwait, setSlot_slot]; exact h.1) hna.2 _ _
  | abortSending i hs =>
    exact ⟨owned_setSlot h.1 i (fun _ _ => Iff.rfl) (h.1.sending_iff i) Iff.rfl (fun _ => rfl) fun _ => hs,
      stands_setSlot h.2 i fun hp => absurd (hs.symm.trans hp) SlotState.noConfusion⟩
  | slotClear i hp hs =>
    exact joint_setSlot_rest h i hp hs SlotState.noConfusion SlotState.noConfusion ⟨rfl, rfl⟩
  | rxRelease r rest => split <;> exact same rfl rfl rfl rfl
  | callWithdraw k hk =>
    refine joint_arbiter (owned_setCall h.1 k (by rw [hk]; exact CallState.noConfusion) CallState.noConfusion
      (fun _ => rfl) fun _ => rfl)
  | callClear k hk =>
    have hno : (s.call k).withdrawPending = false := h.1.not_withdraw_of_reserved (by rw [hk]; exact CallState.noConfusion)
    refine ⟨owned_setCall h.1 k (by rw [hk]; exact CallState.noConfusion) CallState.noConfusion (fun hx => ?_)
      fun hn => (nomatch hn), stands_setCall h.2 k fun hn => absurd hn (by simp [hno])⟩
    exact absurd hx (h.1.withdraw_not_flight (by rw [hk]; exact CallState.noConfusion))
  | oblFinish o status bytes ho =>
    exact joint_arbiter (owned_setObl h.1 o fun _ => rfl)
  | oblDiscard o hf hd =>
    refine joint_arbiter (owned_setObl h.1 o fun hx => ?_)
    exact absurd (h.1.done_flight o hx) (hd (by simp [State.doneInFlight, hx]))
  | arm r => rcases s.armReaction_eq r with e | ⟨x, e⟩ <;> rw [e] <;> exact same rfl rfl rfl rfl
  | disarm r => rcases s.disarmReaction_eq r with e | ⟨x, e⟩ <;> rw [e] <;> exact same rfl rfl rfl rfl
  | force r hs ha => exact takesKept_joint.force s r hs ha h
  | trainStop g => rcases stopTrain_frame s g with e | ⟨x, e⟩ <;> rw [e] <;> exact same rfl rfl rfl rfl
  | outputWrite lines levels => rw [writeOutputs_frame]; exact same rfl rfl rfl rfl
  | _ => exact same rfl rfl rfl rfl

theorem joint_reset : State.reset.Joint := by
  have hslot (i : Fin 8) : State.reset.slot i = Slot.reset := by simp [State.reset, State.slot]
  have hcall (k : Fin 8) : State.reset.call k = CallEntry.freeWith 0 := by simp [State.reset, State.call]
  refine ⟨?_, stands_of_none rfl⟩
  exact
    { sending_iff := fun i => by rw [hslot]; exact ⟨fun hn => (nomatch hn), fun hn => (nomatch hn)⟩
      done_flight := fun o hn => (nomatch hn)
      withdraw_flight := fun k hn => (nomatch hn)
      withdraw_owed := fun k => by rw [hcall]; exact fun hn => nomatch hn
      slot_bound := fun i hb => by
        rw [hslot] at hb
        exact hb.2.elim nofun nofun
      entry_bound := fun k => by rw [hcall]; exact fun hn => nomatch hn
      marks := fun i => by rw [hslot]; exact fun hn => hn.elim (fun hn => nomatch hn) fun hn => nomatch hn }

theorem PortStep.joint {s t : State} (ht : PortStep s t) (h : s.Joint) : t.Joint := by
  rcases ht.hp_or_reset with ⟨x, rfl⟩ | ⟨held, hcsLow, x, rfl⟩
  · exact joint_congr h rfl rfl rfl rfl
  · exact joint_congr joint_reset rfl rfl rfl rfl

/-! ## Events of time and samples -/

theorem joint_expireCall {s : State} (h : s.Joint) (k : Fin 8) : (s.expireCall k).Joint := by
  unfold State.expireCall
  dsimp only
  split
  next hk =>
    have hr : (s.call k).state ≠ .reserved := by rw [hk.2]; exact CallState.noConfusion
    have hw : s.lc.inFlight ≠ some (.withdraw k) :=
      h.1.withdraw_not_flight (by rw [hk.2]; exact CallState.noConfusion)
    have hset : (s.setCall k { s.call k with remaining := 0, fraction := 0 }).Joint :=
      ⟨owned_setCall_lists h.1 k hr rfl rfl, stands_setCall h.2 k id⟩
    exact takesKept_joint.settleTasks _ _ (onlyPlain_separately _)
      (joint_settleCall hset k _ (by rw [State.call_setCall_self]; exact hr) hw)
  · exact h

theorem tick_call (e : CallEntry) : e.tick.state = e.state ∧ e.tick.generation = e.generation ∧ e.tick.slot = e.slot
    ∧ e.tick.withdrawPending = e.withdrawPending := by
  unfold CallEntry.tick
  split
  · split
    · exact ⟨rfl, rfl, rfl, rfl⟩
    · split <;> exact ⟨rfl, rfl, rfl, rfl⟩
  · exact ⟨rfl, rfl, rfl, rfl⟩

theorem call_tick (s : State) (inputs : Byte) (k : Fin 8) :
    (s.tick inputs).call k = if s.lc.held then s.call k else (s.call k).tick := by
  cases hh : s.lc.held <;> simp [State.call, State.tick, hh]

theorem joint_tick {s : State} (h : s.Joint) (inputs : Byte) : (s.tick inputs).Joint := by
  have hcall (k : Fin 8) : ((s.tick inputs).call k).state = (s.call k).state
      ∧ ((s.tick inputs).call k).generation = (s.call k).generation ∧ ((s.tick inputs).call k).slot = (s.call k).slot
      ∧ ((s.tick inputs).call k).withdrawPending = (s.call k).withdrawPending := by
    rw [call_tick]
    split
    · exact ⟨rfl, rfl, rfl, rfl⟩
    · exact tick_call _
  refine ⟨⟨h.1.sending_iff, h.1.done_flight, fun k hk => ?_, fun k => ?_, fun i hi => ?_, fun k => ?_, h.1.marks⟩,
    stands_of h.2 rfl id fun x hx => ?_⟩
  · rw [(hcall k).2.2.2]
    exact h.1.withdraw_flight k hk
  · rw [(hcall k).1, (hcall k).2.2.2]
    exact h.1.withdraw_owed k
  · obtain ⟨k, hb⟩ := h.1.slot_bound i hi
    refine ⟨k, ?_⟩
    rw [(hcall k).1, (hcall k).2.1, (hcall k).2.2.1]
    exact hb
  · rw [(hcall k).1, (hcall k).2.1, (hcall k).2.2.1]
    exact h.1.entry_bound k
  · cases x with
    | withdraw k =>
      simp only [State.isCandidate] at hx ⊢
      rw [(hcall k).2.2.2]
      exact hx
    | _ => exact hx

theorem joint_readBit {s : State} (h : s.Joint) (level : Level) : (s.readBit level).Joint := by
  obtain ⟨a, b, c, d, e, f, n, q, due, hbit, -, hn, -⟩ := bit_frame s.lc s.drivesHold level
  have hread : (s.setLc (s.lc.bit s.drivesHold level)).Joint := by
    rw [hbit]
    refine ⟨owned_congr h.1 rfl rfl rfl, stands_of h.2 rfl (fun hm => ?_) fun x hx => by cases x <;> exact hx⟩
    rw [mayChoose_iff] at hm ⊢
    obtain ⟨hs, hh, hf, hp, hrest⟩ := hm
    exact ⟨hs, hh, hf, Nat.le_zero.mp (hp ▸ hn), hrest⟩
  unfold State.readBit State.ripenIdle
  split
  · exact joint_ripen hread
  · exact hread

theorem sofReady_some {s : State} {c : Candidate} (h : s.sofReady = some c) :
    s.mayChoose = true ∧ s.lc.due = [] ∧ ∃ x, s.lc.choice = some x ∧ x.candidate = c := by
  unfold State.sofReady at h
  split at h
  next hm =>
    simp only [Bool.and_eq_true, List.isEmpty_iff] at hm
    exact ⟨hm.1, hm.2, Option.map_eq_some_iff.mp h⟩
  · cases h

/-- The SOF of the candidate chosen (R54, R66). -/
theorem joint_driveSof {s : State} (h : s.Joint) {c : Candidate} (hc : s.sofReady = some c) : (s.driveSof c).Joint := by
  obtain ⟨hmay, -, x, hx, rfl⟩ := sofReady_some hc
  have hcand := (h.2 x hx).2
  have hflight : s.lc.inFlight = none := ((mayChoose_iff s).mp hmay).2.2.2.2.2
  have howned : s.Owned none := by rw [← hflight]; exact h.1
  refine ⟨?_, stands_of_none (by rw [driveSof_frame])⟩
  rw [show (s.driveSof x.candidate).lc.inFlight = some x.candidate by rw [driveSof_frame]]
  revert hcand
  cases x.candidate with
  | slot i =>
    intro hcand
    have hp : (s.slot i).state = .pending := by simpa [State.isCandidate] using hcand
    refine owned_congr (owned_setSlot howned i (y := { s.slot i with state := .sending }) (fun c hc => ?_)
      ⟨fun _ => rfl, fun _ => rfl⟩ ⟨fun hb => ⟨hb.1, .inl hp⟩, fun hb => ⟨hb.1, .inr rfl⟩⟩ (fun _ => rfl)
      fun _ => rfl) rfl rfl rfl
    exact ⟨fun hn => absurd (Option.some.inj hn).symm hc, fun hn => (nomatch hn)⟩
  | obligation o =>
    intro hcand
    have hp : (s.obl o).state = .finishing := by
      simp only [State.isCandidate, Bool.and_eq_true, beq_iff_eq] at hcand
      exact hcand.1
    refine owned_congr (s := s) ⟨fun i => ?_, fun p hp' => ?_, fun k hk => (nomatch hk), howned.withdraw_owed,
      howned.slot_bound, howned.entry_bound, howned.marks⟩ rfl rfl rfl
    · exact ⟨fun hs => (nomatch (howned.sending_iff i).mp hs), fun hn => (nomatch hn)⟩
    · cases hp'
      exact hp
  | withdraw k =>
    intro hcand
    have hp : (s.call k).withdrawPending = true := by
      simp only [State.isCandidate, Bool.and_eq_true] at hcand
      exact hcand.1
    refine owned_congr (s := s) ⟨fun i => ?_, fun p hp' => (nomatch hp'), fun j hj => ?_, howned.withdraw_owed,
      howned.slot_bound, howned.entry_bound, howned.marks⟩ rfl rfl rfl
    · exact ⟨fun hs => (nomatch (howned.sending_iff i).mp hs), fun hn => (nomatch hn)⟩
    · cases hj
      exact hp

theorem joint_edgeInput {s : State} (h : s.Joint) (k : Fin 8) : (s.edgeInput k).Joint := by
  unfold State.edgeInput
  dsimp only
  split
  · refine takesKept_joint.settleTasks _ _ ?_ (joint_congr h rfl rfl rfl rfl)
    exact onlyPlain_append (a := [[.count 0 k _]]) (onlyPlain_single rfl) (onlyPlain_append (a := [[.count 1 k _]])
      (onlyPlain_single rfl) (onlyPlain_single rfl))
  · exact h

/-! ## Rows -/

theorem rowsKept_joint : RowsKept fun s => s.LinkInv ∧ s.Joint := by
  have T := linkPred_linkInv.tasksKept.takes.and takesKept_joint
  refine RowsKeptWith.and ?_ rowsKept_linkInv
  exact
    { port := fun s t ht _ h => ht.joint h
      command := fun c s hl h => (command_keeps_takes T (fun s t ht h => ⟨ht.linkInv h.1, ht.joint h.2⟩)
        (fun _ _ h => ⟨linkInv_congr h.1 rfl, joint_congr h.2 rfl rfl rfl rfl⟩)
        (fun s t ht h => ⟨ht.linkInv h.1, ht.joint h⟩) c s ⟨hl, h⟩).2
      stale := fun _ _ _ _ _ h => joint_due h _
      carry := fun s e _ he _ h => joint_carryOut (joint_due h _) (by cases e <;> exact he)
      sof := fun _ _ hc _ h => joint_driveSof h hc
      edge := fun _ k _ h => joint_edgeInput h k
      timer := fun s t _ h => by
        unfold State.expireTimer
        split
        · exact takesKept_joint.settleTasks _ _ (onlyPlain_separately _) (joint_congr h rfl rfl rfl rfl)
        · exact h
      lead := fun s g _ h => by
        unfold State.leadTrain
        dsimp only
        split
        · exact takesKept_joint.settleTasks _ _ (onlyPlain_separately _) (joint_congr h rfl rfl rfl rfl)
        · exact h
      trail := fun s g _ h => by
        unfold State.trailTrain
        dsimp only
        split
        · split
          · exact takesKept_joint.settleTasks _ _ (onlyPlain_separately _) (joint_congr h rfl rfl rfl rfl)
          · exact joint_congr h rfl rfl rfl rfl
        · exact h
      call := fun _ k _ h => joint_expireCall h k
      tick := fun _ inputs _ h => joint_tick h inputs
      readBit := fun _ level _ _ _ h => joint_readBit h level }

/-! ## The invariants of the statements -/

theorem owned_iff (s : State) : s.Joint ↔ s.ChoiceInv ∧ s.BindingInv ∧ s.MarksInv :=
  ⟨fun h => ⟨⟨h.2, h.1.sending_iff, h.1.done_flight, h.1.withdraw_flight, h.1.withdraw_owed⟩,
      ⟨h.1.slot_bound, h.1.entry_bound⟩, h.1.marks⟩,
    fun ⟨hc, hb, hm⟩ => ⟨⟨hc.sending_iff, hc.done_flight, hc.withdraw_flight, hc.withdraw_owed, hb.slot_bound,
      hb.entry_bound, hm⟩, hc.choice_stands⟩⟩

theorem joint_step {s t : State} (hl : s.LinkInv) (hc : s.ChoiceInv) (hb : s.BindingInv) (hm : s.MarksInv)
    (hs : step s = .next t) : t.LinkInv ∧ t.ChoiceInv ∧ t.BindingInv ∧ t.MarksInv := by
  obtain ⟨hl', hj⟩ := rowsKept_joint.step (fun _ _ h => ⟨linkInv_congr h.1 rfl, joint_congr h.2 rfl rfl rfl rfl⟩)
    ⟨hl, (owned_iff s).mpr ⟨hc, hb, hm⟩⟩ hs
  exact ⟨hl', (owned_iff t).mp hj⟩

/-- Settles O54, with the joint invariant kept by every part of a row. -/
theorem stepKeepsLinkAndChoice : Obligations.StepKeepsLinkAndChoice := fun _ _ hl hc hb hm hs =>
  have h := joint_step hl hc hb hm hs
  ⟨h.1, h.2.1⟩

/-- Settles O55, with the joint invariant kept by every part of a row. -/
theorem stepKeepsBindingsAndMarks : Obligations.StepKeepsBindingsAndMarks := fun _ _ hl hc hb hm hs =>
  (joint_step hl hc hb hm hs).2.2

end Sys2Proof.Machine
end

section
/-! SUPPORT. The queue, device reset and the select line (R43, R193 to R197): a step on a queue and on none, the
reset values block by block, what a rise of HCS leaves, and the transaction that a command row begins. -/

namespace Sys2Proof.Machine

/-! ## Steps -/

/-- Settles O1: a queue with a front, as the queue's rest or as a field of the state, and an empty one. -/
theorem stepRunsFrontCommand : Obligations.StepRunsFrontCommand := by
  refine ⟨fun c s => rfl, fun c rest s h => ?_, fun s h => ?_⟩
  · simp only [step, h]
  · simp only [step, h]

/-! ## Device reset -/

/-- Every entry of a table of equal entries. -/
theorem getElem_replicate_fin {α : Type} {n : Nat} (x : α) (i : Fin n) : (Vector.replicate n x)[i] = x :=
  Vector.getElem_replicate i.isLt

/-- The port, the commands that wait and the counter of the free value are no reset values. -/
theorem isReset_with (p : HostPort) (l : List Instr) (n : Nat) :
    State.IsReset { State.reset with hp := p, pending := l, freeCount := n } where
  link := ⟨rfl, rfl, rfl, rfl, rfl, rfl, rfl, rfl, rfl⟩
  counts := ⟨rfl, rfl, rfl, rfl, rfl, rfl, rfl⟩
  parameters := ⟨rfl, rfl, rfl, rfl, rfl⟩
  stats c := getElem_replicate_fin 0 c.ix
  released := busTx_of_out _ rfl
  slots i := getElem_replicate_fin Slot.reset i
  masks m := getElem_replicate_fin 0xFFF m
  filters f := getElem_replicate_fin Filter.reset f
  received := ⟨rfl, rfl⟩
  calls k := getElem_replicate_fin (CallEntry.freeWith 0) k
  obligations o := getElem_replicate_fin Obligation.free o
  verdict := rfl
  definitions r := getElem_replicate_fin ReactionDef.reset r
  runs r := getElem_replicate_fin ReactionRun.reset r
  records := ⟨rfl, rfl, rfl⟩
  time := rfl
  timers t := getElem_replicate_fin Timer.reset t
  counters c := getElem_replicate_fin Counter.reset c
  trains g := getElem_replicate_fin Train.reset g
  inputs k := getElem_replicate_fin InputLine.reset k
  outputs k := getElem_replicate_fin OutputLine.reset k
  events := rfl
  station := rfl
  lines k := getElem_replicate_fin _ k
  imageTimers t := getElem_replicate_fin _ t
  imageCounters c := getElem_replicate_fin _ c
  imageTrains g := getElem_replicate_fin _ g

theorem isReset_deviceReset (s : State) (held hcsLow : Bool) : (s.deviceReset held hcsLow).IsReset :=
  isReset_with _ _ _

/-- Settles O3: the reset values once for every state that device reset can leave; the port by the two levels. -/
theorem deviceResetSetsEveryResetValue : Obligations.DeviceResetSetsEveryResetValue := by
  refine ⟨isReset_with _ _ _, rfl, rfl, fun s held hcsLow => ⟨s.deviceReset held hcsLow, rfl,
    isReset_deviceReset s held hcsLow, rfl, fun h => ?held, fun h hh => ?high, fun h hh => ?low⟩⟩
  case held => rw [h]; rfl
  case high => rw [h, hh]; rfl
  case low => rw [h, hh]; rfl

/-! ## The select line (R193, R196, R197) -/

/-- A rise of HCS that no RESET waits for ends the transaction. -/
theorem riseHcs_of_not_ordered {s : State} (clocked : Bool) (h : s.hp.resetOrdered = false) :
    s.riseHcs clocked = { s with hp := { s.hp with
      phase := .deselected
      hso := none
      portErrors := if s.hp.phase.discards clocked then s.hp.portErrors + 1 else s.hp.portErrors } } := by
  simp only [State.riseHcs, h, Bool.false_eq_true, if_false]

/-- A RESET that waits takes effect at the rise of HCS. -/
theorem riseHcs_of_ordered {s : State} (clocked : Bool) (h : s.hp.resetOrdered = true) :
    s.riseHcs clocked = s.deviceReset false false := by
  simp only [State.riseHcs, h, if_true]
  rfl

/-- In a transaction the row of a rise is that rise. -/
theorem exec_hcsRise_of_selected {s : State} (clocked : Bool) (hd : s.hp.phase ≠ .deselected)
    (hr : s.hp.phase ≠ .inReset) : exec (.hcsRise clocked) s = .next (s.riseHcs clocked) := by
  show Host.Outcome.next _ = _
  split <;> rename_i h
  · exact absurd h hr
  · exact absurd h hd
  all_goals rfl

/-- Settles O4: the fall and the rise by the port's phase, the rise by whether a RESET waits. -/
theorem selectLineBeginsAndEndsTransactions : Obligations.SelectLineBeginsAndEndsTransactions := by
  refine ⟨fun s h => congrArg _ (if_pos h), fun s h => congrArg _ (if_neg h), fun s clocked h => ?idle,
    fun s clocked hd hr ho => ?rise, fun s clocked hd hr ho => ?reset⟩
  case idle =>
    show Host.Outcome.next _ = _
    rcases h with h | h <;> simp only [h]
  case rise =>
    rw [exec_hcsRise_of_selected clocked hd hr, riseHcs_of_not_ordered clocked ho]
    cases s.hp.phase <;> rfl
  case reset =>
    rw [exec_hcsRise_of_selected clocked hd hr, riseHcs_of_ordered clocked ho]
    exact ⟨_, rfl, isReset_deviceReset s false false, rfl, rfl⟩

/-! ## Replies and transactions (R193 to R198; log 6) -/

/-- A transaction begun anew waits for its command byte. -/
theorem fallHcs_riseHcs_phase (s : State) (clocked : Bool) :
    ((s.riseHcs clocked).fallHcs).hp.phase = .command := by
  have h : (s.riseHcs clocked).hp.phase = .deselected := by
    cases ho : s.hp.resetOrdered with
    | false => rw [riseHcs_of_not_ordered clocked ho]
    | true => rw [riseHcs_of_ordered clocked ho]; rfl
  simp only [State.fallHcs, h, if_true]

/-- A command that the transaction cannot become stands for the end of that one and the begin of another. -/
theorem hostCommand_of_refused_transaction {s : State} {c : Instr} {bytes : List Byte}
    (hb : encodeCommand c = some bytes) (hr : s.hp.phase ≠ .inReset) (ha : s.hp.phase.accepts bytes = false)
    (body : State → Taken) : s.hostCommand c body = (s.riseHcs true).fallHcs.hostCommand c body := by
  have hp := fallHcs_riseHcs_phase s true
  have h1 : s.beginTransaction bytes = (s.riseHcs true).fallHcs := by simp [State.beginTransaction, ha]
  have h2 : (s.riseHcs true).fallHcs.beginTransaction bytes = (s.riseHcs true).fallHcs :=
    beginTransaction_of_accepts _ _ (by rw [hp]; rfl)
  simp only [State.hostCommand, hr, hb, Option.getD_some, h1, h2, hp, if_false, reduceCtorEq]

/-- Every reply has one frame (R195). -/
theorem reply_eq (s : State) (st : Status) (data : List Byte) : s.reply st data = { s with hp := { s.hp with
    phase := .reply (st.code :: two data.length ++ data), hso := some 0 } } := by
  rw [← be_two]
  rfl

/-- A code outside the table in a transaction that can still become its own is answered UNKNOWN. -/
theorem exec_unknownCommand_of_accepts {code : Byte} {s : State} (hn : paramCount code = none)
    (ha : s.hp.phase.accepts [code] = true) :
    exec (.unknownCommand code) s = .next (s.reply .unknown []) := by
  have hr : s.hp.phase ≠ .inReset := fun hp => by rw [hp] at ha; exact Bool.false_ne_true ha
  show Host.Outcome.next _ = _
  simp only [hn, hr, if_false, beginTransaction_of_accepts s _ ha]

/-- A code outside the table is taken in a transaction begun anew as in the one before it. -/
theorem exec_unknownCommand_of_refused_transaction {code : Byte} {s : State} (hn : paramCount code = none)
    (hr : s.hp.phase ≠ .inReset) (ha : s.hp.phase.accepts [code] = false) :
    exec (.unknownCommand code) s = exec (.unknownCommand code) (s.riseHcs true).fallHcs := by
  have hp : (s.riseHcs true).fallHcs.hp.phase.accepts [code] = true := by
    rw [fallHcs_riseHcs_phase]
    rfl
  rw [exec_unknownCommand_of_accepts hn hp]
  show Host.Outcome.next _ = _
  simp [hn, hr, State.beginTransaction, ha]

/-- Settles O6: the frame of a reply, an unknown code and RESET, the pin held low, and the transaction that a row
begins where it cannot join the one in progress. -/
theorem commandsHaveTheirOwnTransactions : Obligations.CommandsHaveTheirOwnTransactions := by
  refine ⟨fun s st data => ?frame, ⟨fun s code hn ha => ?unknown, fun s h => ?reset⟩,
    ⟨fun c s hc hr => ?held, fun code s hr => ?held_unknown⟩,
    ⟨fun c bytes s hb hr ha => ⟨?anew, ?ready⟩, fun code s hn hr ha =>
      exec_unknownCommand_of_refused_transaction hn hr ha⟩⟩
  case frame =>
    rw [reply_eq]
    cases st <;> rfl
  case unknown => rw [exec_unknownCommand_of_accepts hn ha, reply_eq]; rfl
  case reset =>
    exact (congrArg Host.Outcome.next (hostCommand_of_ok h rfl)).trans (by rw [reply_eq]; rfl)
  case held => rw [exec_eq_hostCommand hc, hostCommand_of_inReset _ _ _ hr]
  case held_unknown =>
    show Host.Outcome.next _ = _
    simp only [hr, if_true]
    split <;> rfl
  case anew =>
    have hc : (encodeCommand c).isSome = true := by rw [hb]; rfl
    rw [exec_eq_hostCommand hc, exec_eq_hostCommand hc, hostCommand_of_refused_transaction hb hr ha]
  case ready => exact ⟨bytes, hb, by rw [fallHcs_riseHcs_phase]; rfl⟩

end Sys2Proof.Machine
end

section
/-! SUPPORT. LOAD and JOIN (R25, R183 to R190): what JOIN applies, the checks that it makes, and the judgement of
LOAD. -/

namespace Sys2Proof.Machine

/-! ## JOIN that is taken (R25, R190) -/

theorem takeJoin_of_offline {s : State} (h : s.lc.state = .offline) :
    takeJoin s = .ok { s with lc := s.lc.joined s.image.station } := by simp only [takeJoin, h]

theorem takeJoin_of_checked {s : State} (h : s.lc.state = .config) (hf : s.failures = []) :
    takeJoin s = .ok { s.applyImage with lc := s.lc.joined s.image.station } := by
  simp only [takeJoin, h, hf]

theorem takeJoin_of_failures {s : State} {x : Failure} {l : List Failure} (h : s.lc.state = .config)
    (hf : s.failures = x :: l) : takeJoin s
      = { Taken.refuse s .configError with data := [x.kind, byte x.index, x.reason] } := by
  simp only [takeJoin, h, hf]

theorem takeJoin_of_follows {s : State} (h : s.follows) : takeJoin s = .refuse s .state := by
  rcases h with h | h | h <;> simp only [takeJoin, h]

theorem exec_join_of_ok {s t : State} (h : s.ready .join) (ht : takeJoin s = .ok t) :
    exec .join s = .next (t.reply .ok []) := congrArg Host.Outcome.next (hostCommand_of_ok h ht)

/-- In a checked image a counter names an input line (R188). -/
theorem source_of_checked {s : State} (h : s.failures = []) (c : Fin 2) :
    s.image.counters[c].source.toNat ≤ 7 := by
  obtain ⟨-, -, -, -, hcounter, -⟩ := (failures_eq_nil s).mp h
  simpa [State.checkCounter, failIf_eq_nil] using hcounter c

/-- In a checked image a train names an output line (R188). -/
theorem line_of_checked {s : State} (h : s.failures = []) (g : Fin 2) :
    s.image.trains[g].line.toNat ≤ 7 := by
  obtain ⟨-, -, -, htrain, -⟩ := (failures_eq_nil s).mp h
  have hg := htrain g
  simp only [State.checkTrainLine, List.append_eq_nil_iff, failIf_eq_nil] at hg
  simpa using hg.1

theorem ix_val_of_lt {n : Nat} [NeZero n] (b : Byte) (h : b.toNat < n) : (ix n b).val = b.toNat :=
  Nat.mod_eq_of_lt h

/-- JOIN from CONFIG works on the Link Controller, the Line Unit, the Timing Unit and the Reaction Engine. -/
theorem exec_join_of_checked {s : State} (h : s.ready .join) (hs : s.lc.state = .config) (hf : s.failures = []) :
    exec .join s = .next (State.reply { s with
      lc := s.lc.joined s.image.station
      lu := s.applyLines.lu
      tu := s.applyTiming.tu
      re := s.applyReactions.re } .ok []) := by
  refine (exec_join_of_ok h (takeJoin_of_checked hs hf)).trans ?_
  rw [applyImage_frame]

theorem input_applyLines (s : State) (k : Fin 8) :
    s.applyLines.lu.inputs[k] = { s.input k with settleTime := s.image.lines[k].settleTime } := by
  simp [State.applyLines]

theorem output_applyLines (s : State) (k : Fin 8) : s.applyLines.lu.outputs[k]
    = { rest := s.image.lines[k].rest, owner := s.image.lines[k].owner, level := s.image.lines[k].rest } := by
  simp [State.applyLines]

theorem timer_applyTiming (s : State) (t : Fin 4) : s.applyTiming.tu.timers[t]
    = { Timer.reset with limit := s.image.timers[t].limit, mode := s.image.timers[t].mode } := by
  simp [State.applyTiming]

theorem counter_applyTiming (s : State) (c : Fin 2) : s.applyTiming.tu.counters[c]
    = { source := ix 8 s.image.counters[c].source
        edge := s.image.counters[c].edge
        compare := s.image.counters[c].compare
        count := 0 } := by
  simp [State.applyTiming]

theorem train_applyTiming (s : State) (g : Fin 2) : s.applyTiming.tu.trains[g] = { Train.reset with
    line := ix 8 s.image.trains[g].line
    period := s.image.trains[g].period
    width := s.image.trains[g].width
    count := s.image.trains[g].count } := by
  simp [State.applyTiming]

theorem run_applyReactions (s : State) (r : Fin 24) :
    s.applyReactions.re.runs[r] = (s.reaction r).initialRun := by
  simp [State.applyReactions]

/-- Settles O9: JOIN from OFFLINE, and from CONFIG with a checked image block by block. -/
theorem joinStartsIntegration : Obligations.JoinStartsIntegration := by
  refine ⟨fun s h hs => exec_join_of_ok h (takeJoin_of_offline hs), fun s h hs hf =>
    ⟨_, exec_join_of_checked h hs hf, rfl, input_applyLines s, output_applyLines s, timer_applyTiming s,
      fun c => ?counter, fun g => ?train, run_applyReactions s, ?records⟩⟩
  case counter =>
    have hc : _ = _ := counter_applyTiming s c
    refine ⟨?_, congrArg Counter.edge hc, congrArg Counter.compare hc, congrArg Counter.count hc⟩
    exact (congrArg (fun x : Counter => x.source.val) hc).trans
      (ix_val_of_lt _ (Nat.lt_succ_of_le (source_of_checked hf c)))
  case train =>
    have hg : _ = _ := train_applyTiming s g
    refine ⟨?_, congrArg Train.period hg, congrArg Train.width hg, congrArg Train.count hg,
      congrArg Train.running hg, congrArg Train.part hg, congrArg Train.elapsed hg, congrArg Train.pulses hg,
      congrArg Train.stopMark hg⟩
    exact (congrArg (fun x : Train => x.line.val) hg).trans
      (ix_val_of_lt _ (Nat.lt_succ_of_le (line_of_checked hf g)))
  case records =>
    simp only [State.applyReactions, State.applyTiming, State.now, and_self]

/-! ## The checks of JOIN (R188, R189) -/

/-- Two lists of failures joined to others name the same first failure where both their parts do. -/
theorem head?_append_congr {α : Type} {a b c d : List α} (h : a.head? = b.head?) (h' : c.head? = d.head?) :
    (a ++ c).head? = (b ++ d).head? := by
  rw [List.head?_append, List.head?_append, h, h']

/-- Checks made member by member name the same first failure where each member's do. -/
theorem head?_flatMap_congr {α β : Type} {f g : α → List β} (h : ∀ i, (f i).head? = (g i).head?) (l : List α) :
    (l.flatMap f).head? = (l.flatMap g).head? := by
  induction l with
  | nil => rfl
  | cons a l ih => exact head?_append_congr (h a) ih

/-- A second check that the first one makes idle may be stated in any way. -/
theorem head?_failIf_append {a b c : Bool} {kind : Byte} {index : Nat} {x y : Byte} (h : a = false → b = c) :
    (failIf a kind index x ++ failIf b kind index y).head?
      = (failIf a kind index x ++ failIf c kind index y).head? := by
  cases a with
  | true => rfl
  | false => rw [h rfl]

/-- A train that owns a line names it, asked train by train. -/
theorem checkLine_eq (s : State) (k : Fin 8) : s.checkLine k = (List.finRange 2).flatMap fun g =>
    failIf (s.image.lines[k].owner == .train g && s.image.trains[g].line.toNat != k.val) 3 k.val 4 := by
  have htwo : List.finRange 2 = [0, 1] := rfl
  rw [htwo]
  unfold State.checkLine
  cases s.image.lines[k].owner with
  | level => rfl
  | train g =>
    obtain rfl | rfl : g = 0 ∨ g = 1 := by omega
    · simp [failIf]
    · simp [failIf]

/-- The line that a train names is owned by it, asked line by line. -/
theorem namesOwned_eq (s : State) (g : Fin 2) (h : s.image.trains[g].line.toNat ≤ 7) :
    (s.image.lines[ix 8 s.image.trains[g].line].owner != .train g)
      = (List.finRange 8).all fun k =>
          !(s.image.trains[g].line.toNat == k.val && s.image.lines[k].owner == .train g) := by
  obtain ⟨k, hk⟩ : ∃ k : Fin 8, s.image.trains[g].line.toNat = k.val := ⟨⟨_, Nat.lt_succ_of_le h⟩, rfl⟩
  simp only [ix_of_val _ k hk]
  rw [Bool.eq_iff_iff]
  simp only [hk, bne_iff_ne, ne_eq, List.all_eq_true, List.mem_finRange, Bool.not_eq_true', Bool.and_eq_false_imp,
    beq_iff_eq, beq_eq_false_iff_ne, Fin.val_inj, forall_const]
  exact ⟨fun hne j hj => hj ▸ hne, fun hall => hall k rfl⟩

/-- The filter that a FINISH names has the ENROL role, asked filter by filter. -/
theorem namesEnrol_eq (s : State) (b : Byte) (h : b.toNat < 16) :
    (!(s.filter (ix 16 b)).roles.getLsbD 2)
      = (List.finRange 16).any fun f => b.toNat == f.val && !(s.filter f).roles.getLsbD 2 := by
  obtain ⟨f, hf⟩ : ∃ f : Fin 16, b.toNat = f.val := ⟨⟨_, h⟩, rfl⟩
  rw [ix_of_val _ f hf, Bool.eq_iff_iff]
  simp only [hf, List.any_eq_true, List.mem_finRange, true_and, Bool.and_eq_true, beq_iff_eq, Fin.val_inj]
  exact ⟨fun hr => ⟨f, rfl, hr⟩, fun ⟨_, hj, hr⟩ => hj ▸ hr⟩

/-- A naming field outside its range, with 256 where the kind names none. -/
theorem outside_eq (limit : Option Nat) (b : Byte) : outside limit b = decide (limit.getD 256 ≤ b.toNat) := by
  cases limit with
  | none => exact (decide_eq_false (Nat.not_le.mpr b.isLt)).symm
  | some n => rfl

theorem exec_join_of_failures {s : State} {x : Failure} (h : s.ready .join) (hs : s.lc.state = .config)
    (hf : s.failures.head? = some x) :
    exec .join s = .next (s.reply .configError [x.kind, byte x.index, x.reason]) := by
  obtain ⟨l, hl⟩ := List.head?_eq_some_iff.mp hf
  refine congrArg Host.Outcome.next ((hostCommand_of_ready h takeJoin).trans ?_)
  rw [takeJoin_of_failures hs hl]
  exact settleTasks_nil _

theorem checkStation_eq_nil {s : State} : s.checkStation = [] ↔ s.image.station.number ≠ 0 := by
  simp [State.checkStation, failIf_eq_nil]

theorem checkFilter_eq_nil {s : State} {f : Fin 16} : s.checkFilter f = [] ↔ (s.filter f).maskIndex.toNat ≤ 3
    ∧ ((s.filter f).roles.getLsbD 2 = true → (s.filter f).kinds.getLsbD 1 = true) := by
  simp [State.checkFilter, failIf_eq_nil]

theorem checkLine_eq_nil {s : State} {k : Fin 8} : s.checkLine k = [] ↔
    ∀ g : Fin 2, s.image.lines[k].owner = .train g → s.image.trains[g].line.toNat = k.val := by
  unfold State.checkLine
  cases s.image.lines[k].owner with
  | level => simp
  | train g => simp [failIf_eq_nil]

theorem checkTrainLine_eq_nil {s : State} {g : Fin 2} : s.checkTrainLine g = [] ↔
    ∃ k : Fin 8, s.image.trains[g].line.toNat = k.val ∧ s.image.lines[k].owner = .train g := by
  simp only [State.checkTrainLine, List.append_eq_nil_iff, failIf_eq_nil, decide_eq_false_iff_not, Nat.not_lt,
    bne_eq_false_iff_eq]
  constructor
  · rintro ⟨hle, ho⟩
    exact ⟨_, (ix_val_of_lt _ (Nat.lt_succ_of_le hle)).symm, ho⟩
  · rintro ⟨k, hk, ho⟩
    refine ⟨by omega, ?_⟩
    simp only [ix_of_val _ k hk]
    exact ho

theorem checkCounter_eq_nil {s : State} {c : Fin 2} :
    s.checkCounter c = [] ↔ s.image.counters[c].source.toNat ≤ 7 := by
  simp [State.checkCounter, failIf_eq_nil]

theorem checkTrainWidth_eq_nil {s : State} {g : Fin 2} :
    s.checkTrainWidth g = [] ↔ s.image.trains[g].width < s.image.trains[g].period := by
  simp [State.checkTrainWidth, failIf_eq_nil]

theorem outside_eq_false {limit : Option Nat} {b : Byte} :
    outside limit b = false ↔ ∀ n, limit = some n → b.toNat < n := by
  cases limit <;> simp [outside]

theorem takesQualifier_eq_true {k : TriggerKind} : k.takesQualifier = true
    ↔ k = .inputEdge ∨ k = .trainDone ∨ k = .slotDone ∨ k = .callSettled := by
  cases k <;> simp [TriggerKind.takesQualifier]

theorem checkReaction_eq_nil {s : State} {r : Fin 24} : s.checkReaction r = [] ↔
    (∀ n, (s.reaction r).trigger.selectors = some n → (s.reaction r).selector.toNat < n)
    ∧ ((s.reaction r).trigger = .inputEdge ∨ (s.reaction r).trigger = .trainDone
        ∨ (s.reaction r).trigger = .slotDone ∨ (s.reaction r).trigger = .callSettled →
        (s.reaction r).qualifier.toNat ≤ 2)
    ∧ ((s.reaction r).gate ≠ .none → (s.reaction r).gateLine.toNat ≤ 7)
    ∧ (∀ n, (s.reaction r).action.targets = some n → (s.reaction r).target.toNat < n)
    ∧ ∀ f : Fin 16, (s.reaction r).action = .finish → (s.reaction r).target.toNat = f.val →
        (s.filter f).roles.getLsbD 2 = true := by
  have hfinish (ht : ∀ n, (s.reaction r).action.targets = some n → (s.reaction r).target.toNat < n) :
      ((s.reaction r).action = .finish → (s.filter (ix 16 (s.reaction r).target)).roles.getLsbD 2 = true)
        ↔ ∀ f : Fin 16, (s.reaction r).action = .finish → (s.reaction r).target.toNat = f.val →
          (s.filter f).roles.getLsbD 2 = true := by
    constructor
    · intro h f ha hf
      rw [← ix_of_val _ f hf]
      exact h ha
    · intro h ha
      exact h _ ha (ix_val_of_lt _ (ht 16 (by rw [ha]; rfl))).symm
  simp only [State.checkReaction, List.append_eq_nil_iff, failIf_eq_nil, outside_eq_false, Bool.and_eq_false_imp,
    takesQualifier_eq_true, decide_eq_false_iff_not, Nat.not_lt, bne_iff_ne, beq_iff_eq, Bool.not_eq_false']
  constructor
  · rintro ⟨⟨⟨⟨hs, hq⟩, hg⟩, ht⟩, hf⟩
    exact ⟨hs, hq, hg, ht, (hfinish ht).mp hf⟩
  · rintro ⟨hs, hq, hg, ht, hf⟩
    exact ⟨⟨⟨⟨hs, hq⟩, hg⟩, ht⟩, (hfinish ht).mpr hf⟩

/-- Settles O8: outside CONFIG and OFFLINE; the first failing check, where the statement's checks and the model's
differ only behind a failure; and the conditions, check by check. -/
theorem joinValidatesTheImage : Obligations.JoinValidatesTheImage := by
  refine ⟨fun s h hs => congrArg Host.Outcome.next (hostCommand_of_refuse h (takeJoin_of_follows hs)), ?first,
    fun s => ?conditions⟩
  case first =>
    intro s check selectors qualified targets checks
    have hcheck : check = failIf := rfl
    have hsel (d : ReactionDef) : decide (selectors d.trigger ≤ d.selector.toNat)
        = outside d.trigger.selectors d.selector := by
      rw [outside_eq]
      cases d.trigger <;> rfl
    have htar (d : ReactionDef) : decide (targets d.action ≤ d.target.toNat)
        = outside d.action.targets d.target := by
      rw [outside_eq]
      cases d.action <;> rfl
    have hqual : qualified = TriggerKind.takesQualifier := by
      funext k
      cases k <;> rfl
    have hhead : s.failures.head? = checks.head? := by
      simp only [State.failures, ← List.flatMap_def]
      refine head?_append_congr (head?_append_congr (head?_append_congr (head?_append_congr (head?_append_congr
        (head?_append_congr rfl rfl) ?line) ?trainLine) rfl) rfl) ?reaction
      case line =>
        rw [funext (checkLine_eq s)]
        rfl
      case trainLine =>
        refine head?_flatMap_congr (fun g => head?_failIf_append fun h => ?_) _
        exact namesOwned_eq s g (by simpa using h)
      case reaction =>
        refine head?_flatMap_congr (fun r => ?_) _
        simp only [State.checkReaction, hsel, htar, hqual, hcheck, List.append_assoc]
        refine head?_append_congr rfl (head?_append_congr rfl (head?_append_congr rfl ?_))
        refine head?_failIf_append fun h => ?_
        cases ha : (s.reaction r).action == .finish with
        | false => rfl
        | true =>
          rw [beq_iff_eq.mp ha] at h
          exact namesEnrol_eq s _ (by simpa [outside, ActionKind.targets] using h)
    refine ⟨?_, fun x l h hs hl => exec_join_of_failures h hs (by rw [hhead, hl]; rfl)⟩
    rw [← List.head?_eq_none_iff, hhead, List.head?_eq_none_iff]
  case conditions =>
    rw [failures_eq_nil]
    simp only [checkStation_eq_nil, checkFilter_eq_nil, checkLine_eq_nil, checkTrainLine_eq_nil,
      checkCounter_eq_nil, checkTrainWidth_eq_nil, checkReaction_eq_nil]

end Sys2Proof.Machine
end

section
/-! SUPPORT. LOAD (R183 to R187): its judgement in the order of R183, and the entry that each kind loads. -/

namespace Sys2Proof.Machine

section
variable {s : State} {kind index : Byte} {f : Vector Byte 11} (h : s.ready (.load kind index f))
include h

theorem exec_load_of_ok {t : State} (ht : takeLoad kind index f s = .ok t) :
    exec (.load kind index f) s = .next (t.reply .ok []) := congrArg Host.Outcome.next (hostCommand_of_ok h ht)

theorem exec_load_of_refuse {st : Status} (ht : takeLoad kind index f s = .refuse s st) :
    exec (.load kind index f) s = .next (s.reply st []) := congrArg Host.Outcome.next (hostCommand_of_refuse h ht)

theorem exec_load_of_ne_config (hs : s.lc.state ≠ .config) :
    exec (.load kind index f) s = .next (s.reply .state []) := exec_load_of_refuse h (if_pos hs)

theorem exec_load_of_no_kind (hs : s.lc.state = .config) (hk : entryCount kind = none) :
    exec (.load kind index f) s = .next (s.reply .range []) :=
  exec_load_of_refuse h (by simp [takeLoad, hs, hk])

theorem exec_load_of_count_le {n : Nat} (hs : s.lc.state = .config) (hk : entryCount kind = some n)
    (hn : n ≤ index.toNat) : exec (.load kind index f) s = .next (s.reply .range []) :=
  exec_load_of_refuse h (by simp [takeLoad, hs, hk, hn])

/-- An entry of the table whose fields are in their ranges is replaced. -/
theorem exec_load_of_entry {n : Nat} {t : State} (hs : s.lc.state = .config) (hk : entryCount kind = some n)
    (hn : index.toNat < n) (ht : s.loadEntry kind index f = some t) :
    exec (.load kind index f) s = .next (t.reply .ok []) :=
  exec_load_of_ok h (by simp [takeLoad, hs, hk, Nat.not_le.mpr hn, ht])

/-- A field outside its range refuses the entry. -/
theorem exec_load_of_no_entry {n : Nat} (hs : s.lc.state = .config) (hk : entryCount kind = some n)
    (hn : index.toNat < n) (ht : s.loadEntry kind index f = none) :
    exec (.load kind index f) s = .next (s.reply .range []) :=
  exec_load_of_refuse h (by simp [takeLoad, hs, hk, Nat.not_le.mpr hn, ht])

/-- LOAD of an entry of the table: replaced where a condition on its fields holds, and refused otherwise. -/
theorem exec_load_ite {n : Nat} {α : Type} {fields : Option α} {x : α} {put : α → State} {p : Prop}
    [Decidable p] (hs : s.lc.state = .config) (hk : entryCount kind = some n) (hn : index.toNat < n)
    (hf : fields = if p then some x else none) (ht : s.loadEntry kind index f = fields.map put) :
    exec (.load kind index f) s = .next (if p then (put x).reply .ok [] else s.reply .range []) := by
  rw [hf] at ht
  by_cases hp : p
  · rw [if_pos hp] at ht ⊢
    exact exec_load_of_entry h hs hk hn ht
  · rw [if_neg hp] at ht ⊢
    exact exec_load_of_no_entry h hs hk hn ht

end

/-! ## The fields of each kind (R184 to R187) -/

theorem entryCount_of_le {kind : Byte} (h : 8 ≤ kind.toNat) : entryCount kind = none := by
  unfold entryCount
  split <;> first | omega | rfl

/-- A yes/no byte is 0 or 1. -/
theorem boolOfCode_eq (b : Byte) :
    boolOfCode b = if b.toNat ≤ 1 then some (b.toNat == 1) else none := by
  unfold boolOfCode
  split
  · rename_i h; rw [h]; rfl
  · rename_i h; rw [h]; rfl
  · rename_i h0 h1
    exact (if_neg fun h => by have : b.toNat = 0 ∨ b.toNat = 1 := by omega
                              exact this.elim h0 h1).symm

theorem ownerOfCode_eq_none {b : Byte} : Owner.ofCode b = none ↔ 2 < b.toNat := by
  unfold Owner.ofCode
  split
  · rename_i h; simp [h]
  · rename_i h; simp [h]
  · rename_i h; simp [h]
  · rename_i h0 h1 h2
    simp only [true_iff]
    have : b.toNat ≠ 0 := h0
    have : b.toNat ≠ 1 := h1
    have : b.toNat ≠ 2 := h2
    omega

theorem timerModeOfCode_eq (b : Byte) :
    TimerMode.ofCode b = if b.toNat ≤ 1 then some (if b.toNat = 0 then .once else .repeating) else none := by
  unfold TimerMode.ofCode
  split
  · rename_i h; simp [h]
  · rename_i h; simp [h]
  · rename_i h0 h1
    have : b.toNat ≠ 0 := h0
    have : b.toNat ≠ 1 := h1
    exact (if_neg (by omega)).symm

section
variable (f : Vector Byte 11)

theorem loadStation_of_ranges {rate : BusRate} (hr : BusRate.ofCode f[1] = some rate) (h1 : 1 ≤ f[0].toNat)
    (h63 : f[0].toNat ≤ 63) (h7 : f[2].toNat ≤ 7) (h15 : f[3].toNat ≤ 15)
    (h32 : 32 ≤ f[4].toNat * 256 + f[5].toNat) : loadStation f = some
      { number := BitVec.ofNat 6 f[0].toNat
        rate := rate
        protocolPriority := BitVec.ofNat 3 f[2].toNat
        retryLimit := f[3].toNat
        holdLength := f[4].toNat * 256 + f[5].toNat } := by
  simp only [loadStation, hr, num2]
  exact if_pos ⟨h1, h63, h7, h15, h32⟩

theorem loadStation_eq_none (h : BusRate.ofCode f[1] = none ∨ f[0].toNat = 0 ∨ 63 < f[0].toNat
    ∨ 7 < f[2].toNat ∨ 15 < f[3].toNat ∨ f[4].toNat * 256 + f[5].toNat < 32) : loadStation f = none := by
  unfold loadStation
  split
  · rename_i rate hr
    refine if_neg fun hc => ?_
    simp only [num2] at hc
    rw [hr] at h
    rcases h with h | h | h | h | h | h
    · cases h
    all_goals omega
  · rfl

theorem loadMask_eq : loadMask f = if f[0].toNat * 256 + f[1].toNat ≤ 0xFFF then
    some (BitVec.ofNat 12 (f[0].toNat * 256 + f[1].toNat)) else none := rfl

theorem loadFilter_eq : loadFilter f
    = if f[0].toNat ≤ 1 ∧ f[1].toNat * 256 + f[2].toNat ≤ 4095 ∧ f[4].toNat ≤ 15 ∧ f[5].toNat ≤ 7 then
        some
          { enabled := f[0].toNat == 1
            topic := BitVec.ofNat 12 (f[1].toNat * 256 + f[2].toNat)
            maskIndex := f[3]
            kinds := BitVec.ofNat 4 f[4].toNat
            roles := BitVec.ofNat 3 f[5].toNat }
      else none := by
  simp only [loadFilter, num2, boolOfCode_eq]
  by_cases h0 : f[0].toNat ≤ 1
  · simp only [h0, if_true, true_and]
    congr
  · simp only [h0, if_false, false_and]

theorem loadLine_of_ranges {owner : Owner} (ho : Owner.ofCode f[2] = some owner) (h1 : f[1].toNat ≤ 1) :
    loadLine f = some { settleTime := f[0].toNat, rest := f[1].toNat == 1, owner := owner } := by
  simp only [loadLine, boolOfCode_eq, h1, if_true, ho]

theorem loadLine_eq_none (h : 2 < f[2].toNat ∨ 1 < f[1].toNat) : loadLine f = none := by
  rcases h with h | h
  · simp only [loadLine, ownerOfCode_eq_none.mpr h]
    cases boolOfCode f[1] <;> rfl
  · simp only [loadLine, boolOfCode_eq, Nat.not_le.mpr h, if_false]

theorem loadTimer_eq : loadTimer f
    = if 1 ≤ (f[0].toNat * 256 + f[1].toNat) * 256 + f[2].toNat ∧ f[3].toNat ≤ 1 then
        some
          { limit := (f[0].toNat * 256 + f[1].toNat) * 256 + f[2].toNat
            mode := if f[3].toNat = 0 then .once else .repeating }
      else none := by
  simp only [loadTimer, num3, timerModeOfCode_eq]
  by_cases h3 : f[3].toNat ≤ 1
  · simp only [h3, if_true, and_true]
    congr
  · simp only [h3, if_false, and_false]

theorem loadCounter_eq : loadCounter f = (CounterEdge.ofCode f[1]).map fun edge =>
    { source := f[0]
      edge := edge
      compare := BitVec.ofNat 24 ((f[2].toNat * 256 + f[3].toNat) * 256 + f[4].toNat) } := by
  unfold loadCounter
  split <;> rename_i h <;> rw [h] <;> rfl

theorem loadTrain_eq : loadTrain f
    = if 2 ≤ f[1].toNat * 256 + f[2].toNat ∧ 1 ≤ f[3].toNat * 256 + f[4].toNat
        ∧ f[3].toNat * 256 + f[4].toNat ≤ 65534 then
        some
          { line := f[0]
            period := f[1].toNat * 256 + f[2].toNat
            width := f[3].toNat * 256 + f[4].toNat
            count := BitVec.ofNat 16 (f[5].toNat * 256 + f[6].toNat) }
      else none := rfl

theorem loadReaction_of_codes {trigger : TriggerKind} {gate : GateKind} {action : ActionKind}
    (ht : TriggerKind.ofCode f[0] = some trigger) (hg : GateKind.ofCode f[3] = some gate)
    (ha : ActionKind.ofCode f[5] = some action) : loadReaction f = if f[10].toNat ≤ 1 then
      some
        { trigger := trigger
          selector := f[1]
          qualifier := f[2]
          gate := gate
          gateLine := f[4]
          action := action
          target := f[6]
          parameter := f[7] ++ f[8]
          budget := f[9].toNat
          initialArmed := f[10].toNat == 1 }
      else none := by
  simp only [loadReaction, ht, hg, ha, boolOfCode_eq]
  by_cases h : f[10].toNat ≤ 1
  · simp only [h, if_true]
  · simp only [h, if_false]

theorem loadReaction_eq_none (h : TriggerKind.ofCode f[0] = none ∨ GateKind.ofCode f[3] = none
    ∨ ActionKind.ofCode f[5] = none) : loadReaction f = none := by
  unfold loadReaction
  split
  · rename_i ht hg ha _
    rw [ht, hg, ha] at h
    rcases h with h | h | h <;> cases h
  · rfl

end

/-- Settles O7: the order of R183, and then the fields of each kind. -/
theorem loadIsJudgedAndReplacesTheEntry : Obligations.LoadIsJudgedAndReplacesTheEntry := by
  intro s kind index f h
  refine ⟨exec_load_of_ne_config h, fun hs hk => exec_load_of_no_kind h hs (entryCount_of_le hk),
    fun n hs hk hn => exec_load_of_count_le h hs hk hn, fun hs hk hi rate hr h1 h63 h7 h15 h32 => ?station,
    fun hs hk hi hbad => ?stationRange, fun m hs hk hm => ?mask, fun k hs hk hi => ?filter,
    fun k hs hk hi owner ho h1 => ?line, fun k hs hk hi hbad => ?lineRange, fun t hs hk hi => ?timer,
    fun c hs hk hi => ?counter, fun g hs hk hi => ?train, fun r hs hk hi => ?reaction⟩ <;> subst hk
  case station =>
    subst hi
    exact exec_load_of_entry h hs rfl Nat.one_pos
      (congrArg (Option.map _) (loadStation_of_ranges f hr h1 h63 h7 h15 h32))
  case stationRange =>
    subst hi
    exact exec_load_of_no_entry h hs rfl Nat.one_pos (congrArg (Option.map _) (loadStation_eq_none f hbad))
  case mask =>
    obtain rfl := ix_of_val index m hm
    have hload := exec_load_ite h hs rfl (hm ▸ Fin.isLt _) (loadMask_eq f) rfl
    exact hload
  case filter =>
    obtain rfl := ix_of_val index k hi
    have hload := exec_load_ite h hs rfl (hi ▸ Fin.isLt _) (loadFilter_eq f) rfl
    exact hload
  case line =>
    obtain rfl := ix_of_val index k hi
    exact exec_load_of_entry h hs rfl (hi ▸ Fin.isLt _) (congrArg (Option.map _) (loadLine_of_ranges f ho h1))
  case lineRange =>
    exact exec_load_of_no_entry h hs rfl (hi ▸ Fin.isLt _) (congrArg (Option.map _) (loadLine_eq_none f hbad))
  case timer =>
    obtain rfl := ix_of_val index t hi
    have hload := exec_load_ite h hs rfl (hi ▸ Fin.isLt _) (loadTimer_eq f) rfl
    exact hload
  case counter =>
    obtain rfl := ix_of_val index c hi
    have hc := congrArg (Option.map fun x => { s with image := { s.image with
      counters := s.image.counters.set (ix 2 index) x } }) (loadCounter_eq f)
    cases he : CounterEdge.ofCode f[1] with
    | none =>
      rw [he] at hc
      exact exec_load_of_no_entry h hs rfl (hi ▸ Fin.isLt _) hc
    | some edge =>
      rw [he] at hc
      exact exec_load_of_entry h hs rfl (hi ▸ Fin.isLt _) hc
  case train =>
    obtain rfl := ix_of_val index g hi
    have hload := exec_load_ite h hs rfl (hi ▸ Fin.isLt _) (loadTrain_eq f) rfl
    exact hload
  case reaction =>
    obtain rfl := ix_of_val index r hi
    split
    · rename_i trigger gate action ht hg ha
      have hload := exec_load_ite h hs rfl (hi ▸ Fin.isLt _) (loadReaction_of_codes f ht hg ha) rfl
      exact hload
    · rename_i hno
      refine exec_load_of_no_entry h hs rfl (hi ▸ Fin.isLt _) (congrArg (Option.map _) (loadReaction_eq_none f ?_))
      cases ht : TriggerKind.ofCode f[0] with
      | none => exact .inl rfl
      | some trigger =>
        cases hg : GateKind.ofCode f[3] with
        | none => exact .inr (.inl rfl)
        | some gate =>
          cases ha : ActionKind.ofCode f[5] with
          | none => exact .inr (.inr rfl)
          | some action => exact absurd ha (hno trigger gate action ht hg)

end Sys2Proof.Machine
end

section
/-! SUPPORT. The transmit arbiter (R62 to R67): the best candidate as the first of least field, and what the arbiter
does with the choice held. -/

namespace Sys2Proof.Machine

namespace State

variable (s : State)

/-! ## The best candidate (R64) -/

/-- The best candidate is the first one of least field among the candidates. -/
theorem bestCandidate_eq_argmin :
    s.bestCandidate = (candidatePlaces.filter s.isCandidate).argmin s.arbitrationKey := by
  have hbetter : s.better = List.argAux fun b c => s.arbitrationKey b < s.arbitrationKey c := by
    funext held c
    cases held <;> rfl
  rw [bestCandidate, hbetter]
  rfl

/-- Every candidate has its place. -/
theorem mem_candidatePlaces (c : Candidate) : c ∈ candidatePlaces := by
  cases c <;> simp [candidatePlaces]

theorem mem_candidates {c : Candidate} :
    c ∈ candidatePlaces.filter s.isCandidate ↔ s.isCandidate c = true := by
  simp [List.mem_filter, mem_candidatePlaces]

/-- Of two candidates the first goes before the second: the second is no slot, or both are and the first is not of
the higher index. -/
def goesBefore (c d : Candidate) : Prop := ∀ j, d = .slot j → ∃ i, c = .slot i ∧ i ≤ j

/-- A protocol candidate has any other before it. -/
theorem goesBefore_of_not_slot {c d : Candidate} (h : ∀ j, d ≠ .slot j) : goesBefore c d :=
  fun j hj => absurd hj (h j)

/-- The places stand in the order that settles ties. -/
theorem goesBefore_candidatePlaces : candidatePlaces.Pairwise goesBefore := by
  have hslots : ((List.finRange 8).map Candidate.slot).Pairwise goesBefore :=
    List.pairwise_map.mpr ((List.sortedLT_finRange 8).sortedLE.pairwise.imp
      fun hle j hj => ⟨_, rfl, Candidate.slot.inj hj ▸ hle⟩)
  have hprotocol {c : Fin 8 → Candidate} (hc : ∀ i j, c i ≠ .slot j) {l : List Candidate}
      (hl : l.Pairwise goesBefore) : (l ++ (List.finRange 8).map c).Pairwise goesBefore := by
    refine List.pairwise_append.mpr ⟨hl, List.pairwise_map.mpr (List.pairwise_of_forall
      fun a b => goesBefore_of_not_slot (hc b)), fun a _ b hb => ?_⟩
    obtain ⟨i, -, rfl⟩ := List.mem_map.mp hb
    exact goesBefore_of_not_slot (hc i)
  exact hprotocol (fun _ _ => Candidate.noConfusion) (hprotocol (fun _ _ => Candidate.noConfusion) hslots)

/-- No candidate has a lower field than the best, and none of its field goes before it. -/
theorem bestCandidate_least {c d : Candidate} (h : s.bestCandidate = some c) (hd : s.isCandidate d = true) :
    s.arbitrationKey c ≤ s.arbitrationKey d
      ∧ ∀ j, d = .slot j → s.arbitrationKey d = s.arbitrationKey c → ∃ i, c = .slot i ∧ i ≤ j := by
  rw [bestCandidate_eq_argmin] at h
  have hmem := (s.mem_candidates).mpr hd
  refine ⟨List.le_of_mem_argmin hmem h, fun j hj hkey => ?_⟩
  have hidx := List.index_of_argmin h hmem hkey.le
  have hcl := List.idxOf_lt_length_of_mem (List.argmin_mem h)
  have hdl := List.idxOf_lt_length_of_mem hmem
  rcases hidx.eq_or_lt with heq | hlt
  · have hcd : c = d := by
      rw [← List.getElem_idxOf hcl, ← List.getElem_idxOf hdl]
      simp only [heq]
    exact ⟨j, hcd.trans hj, le_refl j⟩
  · have hp := List.pairwise_iff_getElem.mp (goesBefore_candidatePlaces.filter s.isCandidate) _ _ hcl hdl hlt
    rw [List.getElem_idxOf, List.getElem_idxOf] at hp
    exact hp j hj

theorem bestCandidate_eq_none : s.bestCandidate = none ↔ ∀ d, s.isCandidate d = false := by
  rw [bestCandidate_eq_argmin, List.argmin_eq_none, List.eq_nil_iff_forall_not_mem]
  simp only [mem_candidates, Bool.not_eq_true]

/-- Which candidate is best does not rest on the choice held. -/
theorem bestCandidate_setChoice (c : Option Choice) :
    (s.setLc { s.lc with choice := c }).bestCandidate = s.bestCandidate := by
  have hcand : (s.setLc { s.lc with choice := c }).isCandidate = s.isCandidate := by
    funext x
    exact s.isCandidate_setChoice c x
  have hkey : (s.setLc { s.lc with choice := c }).arbitrationKey = s.arbitrationKey := by
    funext x
    cases x <;> rfl
  rw [bestCandidate_eq_argmin, bestCandidate_eq_argmin, hcand, hkey]

/-! ## What the arbiter does (R63, R65, R67) -/

variable {s}

theorem arbiter_of_no_choice (hm : s.mayChoose = true) (hc : s.lc.choice = none) : s.arbiter
    = s.setLc { s.lc with choice := s.bestCandidate.map fun c => { candidate := c, due := false } } := by
  simp [arbiter, dropChoice, hm, hc]

theorem arbiter_of_choice_stands {c : Choice} (hm : s.mayChoose = true) (hc : s.lc.choice = some c)
    (hs : s.isCandidate c.candidate = true) : s.arbiter = s := by
  simp [arbiter, dropChoice, hm, hc, hs]

theorem arbiter_of_choice_gone {c : Choice} (hm : s.mayChoose = true) (hc : s.lc.choice = some c)
    (hs : s.isCandidate c.candidate = false) : s.arbiter
      = s.setLc { s.lc with choice := s.bestCandidate.map fun c => { candidate := c, due := false } } := by
  have hm' := hm
  rw [← s.mayChoose_setChoice none] at hm'
  simp only [arbiter, dropChoice, hc, hs, Bool.false_and, Bool.false_eq_true, if_false, hm', beq_self_eq_true,
    Bool.and_self, if_true, bestCandidate_setChoice, setLc_lc, setLc_setLc]

/-- Where no choice may be held the arbiter cancels the one that is. -/
theorem arbiter_of_may_not_choose (hm : s.mayChoose = false) :
    s.arbiter = s.setLc { s.lc with choice := none } := by
  cases hc : s.lc.choice with
  | none =>
    rw [arbiter_of_not_mayChoose s hm hc, ← hc]
    rfl
  | some c =>
    have hm' := hm
    rw [← s.mayChoose_setChoice none] at hm'
    simp only [arbiter, dropChoice, hc, hm, hm', Bool.and_false, Bool.false_and, Bool.false_eq_true, if_false]

end State

/-! ## The arbitration field (R5, R62, R85) -/

/-- Two fields side by side as one number. -/
theorem toNat_append_eq {m n : Nat} (x : BitVec m) (y : BitVec n) :
    (x ++ y).toNat = x.toNat * 2 ^ n + y.toNat := by
  rw [BitVec.toNat_append, ← Nat.shiftLeft_add_eq_or_of_lt y.isLt, Nat.shiftLeft_eq]

theorem toNat_tagTopic (t : CallTag) :
    t.topic.toNat = t.caller.toNat * 64 + t.index.toNat * 8 + t.generation.toNat := by
  rw [CallTag.topic, toNat_append_eq, toNat_append_eq]
  omega

theorem toNat_callTagTopic (s : State) (k : Fin 8) : (s.callTag k).topic.toNat
    = s.lc.station.toNat * 64 + k.val * 8 + (s.call k).generation.toNat := by
  rw [toNat_tagTopic]
  simp only [State.callTag, BitVec.toNat_ofNat, Nat.mod_eq_of_lt k.isLt]

/-- Settles O51: the best candidate as the first of least field; the fields; and the arbiter by whether a choice may
be held and whether one that stands is. -/
theorem arbiterChoosesTheLowestField : Obligations.ArbiterChoosesTheLowestField := by
  refine ⟨fun s c h => ⟨s.bestCandidate_isCandidate h, fun d hd => s.bestCandidate_least h hd⟩,
    State.bestCandidate_eq_none, fun s i => ?slot, fun s o => ?obligation, fun s k => ?withdraw, mayChoose_iff,
    fun s => State.arbiter_of_no_choice, fun s c => State.arbiter_of_choice_stands,
    fun s c => State.arbiter_of_choice_gone, fun s => State.arbiter_of_may_not_choose⟩
  case slot =>
    have hkind (k : SlotKind) : k.frameKind.code = if k = .cue then 0 else 1 := by cases k <;> rfl
    rw [← hkind]
    rfl
  case obligation => exact congrArg (_ + ·) (toNat_tagTopic _)
  case withdraw => exact congrArg (_ + ·) (toNat_callTagTopic s k)

end Sys2Proof.Machine
end

section
/-! SUPPORT. The own hold's commands (R34, R36), the refusals that all commands share (R46 to R198), and the records
that the read commands return (R210 to R212). -/

namespace Sys2Proof.Machine

/-! ## The own hold (R34, R36) -/

/-- Setting the persistent flag costs a choice held its permission (R67). -/
theorem setHoldFlag_eq (s : State) :
    s.setHoldFlag = { s with lc := { s.lc with holdFlag := true, choice := none } } :=
  State.arbiter_of_may_not_choose (Bool.eq_false_iff.mpr fun hm =>
    Bool.noConfusion ((mayChoose_iff _).mp hm).2.2.1)

/-- Settles O11: HOLD ASSERT in ACTIVE and elsewhere, and HOLD RELEASE. -/
theorem holdCommandsMoveTheOwnHold : Obligations.HoldCommandsMoveTheOwnHold := by
  refine ⟨fun s h hs => ?assert, fun s h hs => ?refused, fun s h => ?release⟩
  case assert =>
    rw [← setHoldFlag_eq]
    exact congrArg Host.Outcome.next (hostCommand_of_ok h (if_pos hs))
  case refused => exact congrArg Host.Outcome.next (hostCommand_of_refuse h (if_neg hs))
  case release => exact congrArg Host.Outcome.next (hostCommand_of_ok h rfl)

/-! ## Refusals (R46 to R173, R198) -/

/-- A command whose taking refuses it is its reply. -/
theorem exec_of_refuse {s : State} {c : Instr} {st : Status} (h : s.ready c)
    (ht : takenBy c s = .refuse s st) : exec c s = .next (s.reply st []) := by
  have hc : (encodeCommand c).isSome = true := by
    obtain ⟨bytes, hb, -⟩ := h
    rw [hb]
    rfl
  rw [exec_eq_hostCommand hc, hostCommand_of_refuse h ht]

/-- A member beyond its table is refused before anything else. -/
theorem takenBy_of_le {c : Instr} {b : Byte} {n : Nat} (h : Instr.member c = some (b, n)) (hn : n ≤ b.toNat)
    (s : State) : takenBy c s = .refuse s .range := by
  cases c
  case oblFinish entry st count bytes =>
    cases h
    show (if _ then _ else _) = _
    split
    · rfl
    · exact indexed_of_le _ hn _ _
  case timerLimit timer limit =>
    cases h
    show (if _ then _ else _) = _
    split
    · rfl
    · exact indexed_of_le _ hn _ _
  all_goals cases h
  all_goals
    unfold takenBy
    exact indexed_of_le _ hn _ _

/-- In CONFIG a command that JOIN makes usable is refused, its member being one of the table. -/
theorem takenBy_of_config {c : Instr} {b : Byte} {n : Nat} {s : State} (h : Instr.member c = some (b, n))
    (hn : b.toNat < n) (ha : Instr.afterJoin c = true) (hl : ∀ x : Byte, c ≠ .timerLimit x 0)
    (hs : s.lc.state = .config) : takenBy c s = .refuse s .state := by
  cases c
  case timerLimit timer limit =>
    cases h
    have hne : limit ≠ 0 := fun h0 => hl b (h0 ▸ rfl)
    exact (if_neg hne).trans ((indexed_of_val _ ⟨_, hn⟩ rfl _ s).trans (afterJoin_of_config hs _))
  all_goals cases ha
  all_goals cases h
  all_goals
    unfold takenBy
    exact (indexed_of_val _ ⟨_, hn⟩ rfl _ s).trans (afterJoin_of_config hs _)

/-- A limit of 0 is refused before the timer is looked at (log 20). -/
theorem takenBy_timerLimit_zero (b : Byte) (s : State) : takenBy (.timerLimit b 0) s = .refuse s .range := by
  unfold takenBy
  exact if_pos rfl

/-- Settles O14: a member beyond its table, a count and a limit out of range, and the commands that CONFIG holds
back. -/
theorem badIndexesAndUnjoinedCommandsAreRefused : Obligations.BadIndexesAndUnjoinedCommandsAreRefused :=
  ⟨fun _ _ _ s hm hn h => exec_of_refuse h (takenBy_of_le hm hn s),
    fun _ _ _ _ _ h hn => exec_of_refuse h (if_pos hn),
    fun b s h => exec_of_refuse h (takenBy_timerLimit_zero b s),
    fun _ _ _ _ hm hn ha hl h hs => exec_of_refuse h (takenBy_of_config hm hn ha hl hs),
    fun _ _ _ h hs => exec_of_refuse h (afterJoin_of_config hs _)⟩

/-! ## Reads (R53, R103, R126, R154, R164, R167, R173, R179) -/

theorem marks_eq (x : Slot) : x.marks = BitVec.ofNat 8 ((if x.rerun then 1 else 0) + (if x.abort then 2 else 0)
    + (if x.abortTooLate then 4 else 0) + (if x.rerunDropped then 8 else 0)) := by
  unfold Slot.marks
  cases x.rerun <;> cases x.abort <;> cases x.abortTooLate <;> cases x.rerunDropped <;> rfl

theorem kindByte_eq (k : SlotKind) : byte k.frameKind.code = if k = .cue then 0 else 1 := by cases k <;> rfl

theorem callFieldBytes_eq (c : Option (Fin 8 × BitVec 3)) : callFieldBytes c = (match c with
    | none => [0xFF, 0xFF]
    | some (k, g) => [BitVec.ofNat 8 k.val, BitVec.ofNat 8 g.toNat]) := by
  cases c <;> rfl

theorem timerModeCode_eq (m : TimerMode) : m.code = if m = .once then 0 else 1 := by cases m <;> rfl

theorem trainPartCode_eq (p : TrainPart) : p.code = if p = .rest then 0 else 1 := by cases p <;> rfl

theorem resultBytes_eq (r : Option ActionResult) : resultBytes r = (match r with
    | none => [0, 0]
    | some .done => [1, 0]
    | some (.refused why) => [2, why.code]) := by
  rcases r with _ | _ | why <;> rfl

theorem rootBytes_eq (r : Root) : r.bytes = (match r with
    | .occurrence o => [o.kind.code, BitVec.ofNat 8 (o.selector.getD 0), o.detail]
    | .force f => [0xFF, BitVec.ofNat 8 f.val, 0]) := by
  cases r <;> rfl

theorem refusalBytes_eq (r : Option RefusalRecord) : refusalBytes r = (match r with
    | none => [0, 0, 0, 0, 0, 0, 0, 0]
    | some y => [1, BitVec.ofNat 8 y.reaction.val, y.action.code, y.reason.code] ++ four y.stamp) := by
  cases r with
  | none => rfl
  | some y => rw [refusalBytes, be_four]; rfl

theorem chainBytes_eq (r : Option ChainRecord) : chainBytes r = (match r with
    | none => [0, 0, 0, 0, 0, 0, 0, 0, 0, 0, 0, 0]
    | some y => [1, BitVec.ofNat 8 y.reaction.val, y.reached.kind.code,
        BitVec.ofNat 8 (y.reached.selector.getD 0), y.reached.detail]
      ++ (match y.root with
        | .occurrence o => [o.kind.code, BitVec.ofNat 8 (o.selector.getD 0), o.detail]
        | .force f => [0xFF, BitVec.ofNat 8 f.val, 0])
      ++ four y.stamp) := by
  cases r with
  | none => rfl
  | some y => rw [chainBytes, be_four, rootBytes_eq]; rfl

theorem flightByte_eq (s : State) (o : Fin 8) :
    boolByte (s.doneInFlight o) = if s.lc.inFlight = some (.obligation o) then 1 else 0 := by
  simp only [boolByte, State.doneInFlight, beq_iff_eq]

theorem callResultReplyBytes_eq (r : CallResult) : r.replyBytes = [BitVec.ofNat 8 r.station.toNat, r.status,
    BitVec.ofNat 8 r.bytes.length, if r.late then 1 else 0] ++ r.bytes ++ four r.arrivedAt := by
  rw [CallResult.replyBytes, be_four]
  rfl

theorem indexOrNone_eq (o : Option (Fin 8)) : indexOrNone o = (match o with
    | none => 0xFF
    | some i => BitVec.ofNat 8 i.val) := by
  cases o <;> rfl

/-- A read of a member of a table replies with its record and changes nothing. -/
theorem hostCommand_read {n : Nat} [NeZero n] {s : State} {c : Instr} (h : s.ready c) {b : Byte} {i : Fin n}
    (hb : b.toNat = i.val) (bytes : Fin n → State → List Byte) :
    s.hostCommand c (indexed n b fun i t => .ok t (bytes i t)) = s.reply .ok (bytes i s) :=
  hostCommand_indexed_of_ready h hb rfl

/-- Settles O15: each record in its layout. -/
theorem readsReturnTheRecordAndChangeNothing : Obligations.ReadsReturnTheRecordAndChangeNothing := by
  refine ⟨⟨fun s b i h hb => ?slot, fun s b o h hb => ?obligation, fun s b t h hb => ?timer,
    fun s b c h hb => ?counter, fun s b g h hb => ?train, fun s h => ?lines⟩,
    fun s b k h hb => ?call, fun s b r h hb => ?reaction⟩
  case slot =>
    refine congrArg Host.Outcome.next ((hostCommand_read h hb fun i t => (t.slot i).bytes).trans ?_)
    rw [Slot.bytes, be_two, be_two, be_four, marks_eq, kindByte_eq, callFieldBytes_eq]
    rfl
  case obligation =>
    refine congrArg Host.Outcome.next
      ((hostCommand_read h hb fun o t => (t.obl o).bytes (t.doneInFlight o)).trans ?_)
    rw [Obligation.bytes, be_two, be_four, flightByte_eq]
    cases (s.obl o).result <;> rfl
  case timer =>
    refine congrArg Host.Outcome.next ((hostCommand_read h hb fun t u => (u.timer t).bytes).trans ?_)
    rw [Timer.bytes, be_three, be_three, timerModeCode_eq]
    rfl
  case counter =>
    refine congrArg Host.Outcome.next ((hostCommand_read h hb fun c u => (u.counter c).bytes).trans ?_)
    rw [Counter.bytes, be_three, be_three]
    rfl
  case train =>
    refine congrArg Host.Outcome.next ((hostCommand_read h hb fun g u => (u.train g).bytes).trans ?_)
    rw [Train.bytes, be_two, be_two, be_two, be_two, be_two, trainPartCode_eq]
    rfl
  case lines =>
    exact ⟨s.inputByte, s.outputByte, congrArg Host.Outcome.next (hostCommand_of_ok h rfl),
      levelsByte_getLsbD _, levelsByte_getLsbD _⟩
  case call =>
    refine congrArg Host.Outcome.next ((hostCommand_read h hb fun k t => (t.call k).bytes).trans ?_)
    rw [CallEntry.bytes, be_two, be_two, be_two, be_two, be_four, be_four, indexOrNone_eq, ← List.flatMap_def,
      funext callResultReplyBytes_eq]
    rfl
  case reaction =>
    refine congrArg Host.Outcome.next ((hostCommand_read h hb fun r t => t.reactionBytes r).trans ?_)
    rw [State.reactionBytes, ReactionDef.bytes, ReactionRun.bytes, be_two, be_two, be_four, resultBytes_eq,
      refusalBytes_eq, chainBytes_eq]
    simp only [List.append_assoc]
    rfl

end Sys2Proof.Machine
end

section
/-! SUPPORT. What the owners of attempts become (R55 to R59, R99, R123): a new request, the arrival at a done state
step by step, and the outcome tables of slots, obligations and calls. -/

namespace Sys2Proof.Machine

/-! ## New requests (R47, R48) -/

theorem newRequest_of_cue {s : State} {i : Fin 8} (h : (s.slot i).kind = .cue) :
    s.newRequest i = some (s.setSlot i ((s.slot i).requested none)).arbiter := by
  simp only [State.newRequest, h]

theorem newRequest_of_call {s : State} {i k : Fin 8} (h : (s.slot i).kind = .call)
    (hk : s.lowestFreeCall = some k) : s.newRequest i = some (((s.reserveCall i k).setSlot i
      ((s.slot i).requested (some (k, (s.call k).generation + 1)))).arbiter) := by
  simp only [State.newRequest, h, hk]

theorem newRequest_of_no_free {s : State} {i : Fin 8} (h : (s.slot i).kind = .call)
    (hk : s.lowestFreeCall = none) : s.newRequest i = none := by
  simp only [State.newRequest, h, hk]

theorem lowestFreeCall_eq_some {s : State} {k : Fin 8} : s.lowestFreeCall = some k ↔
    (s.call k).state = .free ∧ ∀ j, j < k → (s.call j).state ≠ .free := by
  simp [State.lowestFreeCall, find_finRange_eq_some]

theorem lowestFreeCall_eq_none {s : State} : s.lowestFreeCall = none ↔ ∀ k, (s.call k).state ≠ .free := by
  simp [State.lowestFreeCall]

/-! ## The arrival at a done state (R57 to R59) -/

/-- A slot at its done state, reported (R57). -/
def State.arrived (s : State) (i : Fin 8) (x : Slot) : State :=
  ((s.setSlot i x).setFlag .slotDone).addSlotDone i

section
variable (s : State) (i : Fin 8) (x y : Slot)

@[simp] theorem slot_arrived_self : (s.arrived i x).slot i = x := State.slot_setSlot_self ..

@[simp] theorem call_arrived (k : Fin 8) : (s.arrived i x).call k = s.call k := rfl

@[simp] theorem setSlot_arrived : (s.arrived i x).setSlot i y = s.arrived i y := by
  simp [State.arrived, State.setSlot, State.setFlag, State.addSlotDone]

theorem setCall_arrived (k : Fin 8) (e : CallEntry) :
    (s.arrived i x).setCall k e = (s.setCall k e).arrived i x := rfl

@[simp] theorem setSlot_then_arrived : (s.setSlot i y).arrived i x = s.arrived i x := by
  rw [State.arrived, State.setSlot_setSlot]
  rfl

end

section
variable {s : State} {i : Fin 8}

/-- The arrival is the report, the end of the binding and the rerun (R57). -/
theorem arriveDone_eq (s : State) (i : Fin 8) (d : DoneState) (responses : List Byte) :
    s.arriveDone i d responses
      = ((((s.arrived i { s.slot i with state := d.slotState }).endBinding i d responses).1).applyRerun i,
        ((s.arrived i { s.slot i with state := d.slotState }).endBinding i d responses).2 ++ [.slotDone i d]) := rfl

theorem endBinding_of_cue (h : (s.slot i).kind = .cue) (d : DoneState) (responses : List Byte) :
    s.endBinding i d responses = (s, []) := by simp only [State.endBinding, h]

theorem endBinding_of_sent {k : Fin 8} {g : BitVec 3} (h : (s.slot i).kind = .call)
    (hc : (s.slot i).call = some (k, g)) (responses : List Byte) :
    s.endBinding i .sent responses = s.openCall k responses := by
  simp only [State.endBinding, h, hc, if_true]

theorem endBinding_of_ne_sent {k : Fin 8} {g : BitVec 3} {d : DoneState} (h : (s.slot i).kind = .call)
    (hc : (s.slot i).call = some (k, g)) (hd : d ≠ .sent) (responses : List Byte) :
    s.endBinding i d responses = ((s.releaseCall k).setSlot i { s.slot i with call := none }, []) := by
  simp only [State.endBinding, h, hc, hd, if_false]

theorem applyRerun_of_unmarked (h : (s.slot i).rerun = false) : s.applyRerun i = s := by
  simp [State.applyRerun, h]

theorem applyRerun_of_new {t : State} (h : (s.slot i).rerun = true) (ht : s.newRequest i = some t) :
    s.applyRerun i = t := by simp [State.applyRerun, h, ht]

theorem applyRerun_of_none (h : (s.slot i).rerun = true) (ht : s.newRequest i = none) : s.applyRerun i
    = (s.setSlot i { s.slot i with rerun := false, rerunDropped := true }).setFlag .callNote := by
  simp [State.applyRerun, h, ht]

/-- A CUE slot at a done state binds nothing. -/
theorem arriveDone_of_cue (h : (s.slot i).kind = .cue) (d : DoneState) (responses : List Byte) :
    s.arriveDone i d responses
      = ((s.arrived i { s.slot i with state := d.slotState }).applyRerun i, [.slotDone i d]) := by
  rw [arriveDone_eq, endBinding_of_cue (by simpa using h)]
  rfl

/-- A CALL slot at a done state other than SENT lets its entry go. -/
theorem arriveDone_of_released {k : Fin 8} {g : BitVec 3} {d : DoneState} (h : (s.slot i).kind = .call)
    (hc : (s.slot i).call = some (k, g)) (hd : d ≠ .sent) (responses : List Byte) :
    s.arriveDone i d responses
      = (((s.setCall k (CallEntry.freeWith (s.call k).generation)).arrived i
          { s.slot i with state := d.slotState, call := none }).applyRerun i, [.slotDone i d]) := by
  rw [arriveDone_eq, endBinding_of_ne_sent (by simpa using h) (by simpa using hc) hd, State.releaseCall,
    setCall_arrived, setSlot_arrived, slot_arrived_self]
  rfl

/-- A CALL slot at SENT opens its call. -/
theorem arriveDone_of_opened {k : Fin 8} {g : BitVec 3} (h : (s.slot i).kind = .call)
    (hc : (s.slot i).call = some (k, g)) (responses : List Byte) :
    s.arriveDone i .sent responses
      = (((s.arrived i { s.slot i with state := .sent }).openCall k responses).1.applyRerun i,
        ((s.arrived i { s.slot i with state := .sent }).openCall k responses).2 ++ [.slotDone i .sent]) := by
  rw [arriveDone_eq, endBinding_of_sent (k := k) (g := g) (by simpa using h) (by simpa using hc)]
  rfl

end

/-- The opening of a call changes its entry and no slot, and the entry is not FREE after it. -/
theorem openCall_slot_call (s : State) (k : Fin 8) (l : List Byte) : (∀ i, (s.openCall k l).1.slot i = s.slot i)
    ∧ (∀ j, j ≠ k → (s.openCall k l).1.call j = s.call j) ∧ ((s.openCall k l).1.call k).state ≠ .free := by
  by_cases hl : (responseLists s.lc.station l).1 = []
  · rw [openCall_of_none hl, settleCall_written]
    refine ⟨fun i => ?_, fun j hj => ?_, ?_⟩
    · rw [State.slot_arbiter]
      rfl
    · rw [State.call_arbiter, State.call_addCallSettled, State.call_setFlag, State.call_setCall, if_neg hj,
        State.call_setCall, if_neg hj]
    · rw [State.call_arbiter, State.call_addCallSettled, State.call_setFlag, State.call_setCall_self]
      exact CallState.noConfusion
  · rw [openCall_of_enrolled hl]
    refine ⟨fun i => rfl, fun j hj => ?_, ?_⟩
    · rw [State.call_setCall, if_neg hj]
    · rw [State.call_setCall_self]
      exact CallState.noConfusion

/-- A rerun of a CALL slot that finds a FREE entry reserves it (R59). -/
theorem applyRerun_of_call {s : State} {i j : Fin 8} (h : (s.slot i).rerun = true) (hk : (s.slot i).kind = .call)
    (hj : (s.call j).state = .free ∧ ∀ m, m < j → (s.call m).state ≠ .free) : s.applyRerun i
      = (((s.reserveCall i j).setSlot i
        ((s.slot i).requested (some (j, (s.call j).generation + 1)))).arbiter) :=
  applyRerun_of_new h (newRequest_of_call hk (lowestFreeCall_eq_some.mpr hj))

/-! ## The outcome tables (R55, R99, R123) -/

/-- BIT, STUFF and FORM. -/
def TxCode.isError (c : TxCode) : Prop := c = .bit ∨ c = .stuff ∨ c = .form

section
variable {s : State} {i : Fin 8} (responses : List Byte)

theorem slotOutcome_of_error {c : TxCode} (hc : c.isError) (ha : (s.slot i).abort = false)
    (hle : (s.slot i).attempts + 1 ≤ s.lc.retryLimit) : s.slotOutcome i c responses = s.returnPending i
      { s.slot i with lastCode := some c, abort := false, attempts := (s.slot i).attempts + 1 } := by
  rcases hc with rfl | rfl | rfl <;> simp [State.slotOutcome, ha, Nat.not_lt.mpr hle]

theorem slotOutcome_of_last_error {c : TxCode} (hc : c.isError) (ha : (s.slot i).abort = false)
    (hlt : s.lc.retryLimit < (s.slot i).attempts + 1) : s.slotOutcome i c responses = (s.setSlot i
      { s.slot i with lastCode := some c, abort := false, attempts := (s.slot i).attempts + 1 }).arriveDone i
        .failed [] := by
  rcases hc with rfl | rfl | rfl <;> simp [State.slotOutcome, ha, hlt]

theorem slotOutcome_of_abort {c : TxCode} (hc : c ≠ .ok) (ha : (s.slot i).abort = true) :
    s.slotOutcome i c responses
      = (s.setSlot i { s.slot i with lastCode := some c, abort := false }).arriveDone i .aborted [] := by
  cases c <;> first | exact absurd rfl hc | simp [State.slotOutcome, ha]

end

/-- Clearing an abort mark that is not set changes nothing. -/
theorem Slot.clearAbort {x : Slot} (h : x.abort = false) : { x with abort := false } = x := by
  cases x
  cases h
  rfl

section
variable {s : State} {o k : Fin 8} {c : TxCode}

theorem doneOutcome_of_error (hc : c.isError) (hle : (s.obl o).attempts + 1 ≤ s.lc.retryLimit) :
    s.doneOutcome o c = s.setObl o { s.obl o with attempts := (s.obl o).attempts + 1 } := by
  rcases hc with rfl | rfl | rfl <;> simp [State.doneOutcome, Nat.not_lt.mpr hle]

theorem doneOutcome_of_last_error (hc : c.isError) (hlt : s.lc.retryLimit < (s.obl o).attempts + 1) :
    s.doneOutcome o c = (s.setObl o
      { s.obl o with state := .failed, attempts := (s.obl o).attempts + 1 }).noteOblChanged o := by
  rcases hc with rfl | rfl | rfl <;> simp [State.doneOutcome, hlt]

theorem withdrawOutcome_of_error (hc : c.isError)
    (hle : (s.call k).withdrawAttempts + 1 ≤ s.lc.retryLimit) : s.withdrawOutcome k c
      = (s.setCall k { s.call k with withdrawAttempts := (s.call k).withdrawAttempts + 1 }, []) := by
  rcases hc with rfl | rfl | rfl <;> simp [State.withdrawOutcome, Nat.not_lt.mpr hle]

theorem withdrawOutcome_of_last_error (hc : c.isError)
    (hlt : s.lc.retryLimit < (s.call k).withdrawAttempts + 1) : s.withdrawOutcome k c
      = ((s.setCall k { s.call k with withdrawAttempts := (s.call k).withdrawAttempts + 1 }).settleCall k
        .withdrawFailed, [.callSettled k .withdrawFailed]) := by
  rcases hc with rfl | rfl | rfl <;> simp [State.withdrawOutcome, hlt]

end

/-- Settles O38: the slot's table by code and abort mark; the arrival by kind, done state and rerun mark; and the
tables of obligations and calls by code. -/
theorem ownersFollowTheirOutcomeTables : Obligations.OwnersFollowTheirOutcomeTables := by
  refine ⟨fun s i responses => ?slot, fun s o k c => ⟨fun hc => ?freed, fun hc => ?kept, doneOutcome_of_error,
    doneOutcome_of_last_error, fun hc => ?withdrawn, withdrawOutcome_of_error, withdrawOutcome_of_last_error⟩⟩
  case freed => subst hc; rfl
  case kept => rcases hc with rfl | rfl <;> exact ⟨rfl, rfl⟩
  case withdrawn => subst hc; rfl
  case slot =>
    refine ⟨fun c ha hc => ?lost, fun c ha hc => ?hold, fun c ha hc hle => ?error, fun c ha hc hlt => ?lastError,
      fun c ha hc => slotOutcome_of_abort responses hc ha, rfl, fun d hk hr => ?cue, fun d hk hr => ?cueRerun,
      fun d k g hk hc hr hd => ?released, fun k g hk hc hr => ?opened, fun k g hk hc hr hfree => ?dropped,
      fun k g j hk hc hr hj => ?openedRerun, fun d k g j hk hc hr hd hj => ?releasedRerun⟩
    case lost => subst hc; simp [State.slotOutcome, ha, State.returnPending]
    case hold => subst hc; simp [State.slotOutcome, ha, State.returnPending]
    case error => exact slotOutcome_of_error responses hc ha hle
    case lastError =>
      rw [slotOutcome_of_last_error responses hc ha hlt]
      exact congrArg (fun x => (s.setSlot i x).arriveDone i .failed [])
        (Slot.clearAbort (x := { s.slot i with lastCode := some c, attempts := (s.slot i).attempts + 1 }) ha)
    case cue =>
      rw [arriveDone_of_cue hk, applyRerun_of_unmarked (by simpa using hr)]
      rfl
    case cueRerun =>
      rw [arriveDone_of_cue hk, applyRerun_of_new (by simpa using hr) (newRequest_of_cue (by simpa using hk)),
        setSlot_arrived, slot_arrived_self]
      rfl
    case released =>
      rw [arriveDone_of_released hk hc hd, applyRerun_of_unmarked (by simpa using hr)]
      rfl
    case opened =>
      rw [arriveDone_of_opened hk hc, applyRerun_of_unmarked]
      · rfl
      · rw [(openCall_slot_call _ k responses).1, slot_arrived_self]
        exact hr
    case dropped =>
      obtain ⟨hslot, hother, hk'⟩ := openCall_slot_call (s.arrived i { s.slot i with state := .sent }) k responses
      have hnone : ∀ j, (((s.arrived i { s.slot i with state := .sent }).openCall k responses).1.call j).state
          ≠ .free := by
        intro j
        by_cases hj : j = k
        · rw [hj]
          exact hk'
        · rw [hother j hj]
          exact hfree j
      rw [arriveDone_of_opened hk hc, applyRerun_of_none, hslot, slot_arrived_self]
      · rfl
      · rw [hslot, slot_arrived_self]
        exact hr
      · exact newRequest_of_no_free (by rw [hslot, slot_arrived_self]; exact hk)
          (lowestFreeCall_eq_none.mpr hnone)
    case openedRerun =>
      obtain ⟨hslot, -⟩ := openCall_slot_call (s.arrived i { s.slot i with state := .sent }) k responses
      have hfree : (((s.arrived i { s.slot i with state := .sent }).openCall k responses).1.call j).state = .free
          ∧ ∀ m, m < j →
            (((s.arrived i { s.slot i with state := .sent }).openCall k responses).1.call m).state ≠ .free := hj
      rw [arriveDone_of_opened hk hc, applyRerun_of_call _ _ hfree, State.reserveCall, hslot, slot_arrived_self]
      · rfl
      · rw [hslot, slot_arrived_self]
        exact hr
      · rw [hslot, slot_arrived_self]
        exact hk
    case releasedRerun =>
      have hfree : (((s.setCall k (CallEntry.freeWith (s.call k).generation)).arrived i
            { s.slot i with state := d.slotState, call := none }).call j).state = .free
          ∧ ∀ m, m < j → (((s.setCall k (CallEntry.freeWith (s.call k).generation)).arrived i
            { s.slot i with state := d.slotState, call := none }).call m).state ≠ .free := hj
      rw [arriveDone_of_released hk hc hd, applyRerun_of_call (by simpa using hr) (by simpa using hk) hfree,
        State.reserveCall, slot_arrived_self]
      rfl

end Sys2Proof.Machine
end

section
/-! SUPPORT. The commands of the Outbox, the Call Unit and the Obligation Unit (R46 to R52, R97 to R102, R120 to
R125): their takings by the state of the member named, and the commands assembled from them. -/

namespace Sys2Proof.Machine

/-! ## SLOT WRITE (R46) -/

/-- The low bits of a word are the word as a narrower number. -/
theorem extractLsb'_zero_eq {n : Nat} (x : BitVec n) (m : Nat) :
    x.extractLsb' 0 m = BitVec.ofNat m x.toNat := by
  apply BitVec.eq_of_toNat_eq
  simp

section
variable {priority kind : Byte} {topic deadline : BitVec 16} {length : Byte} (payload : Vector Byte 8)

theorem slotContent_eq_none (h : 7 < priority.toNat ∨ 1 < kind.toNat ∨ 4095 < topic.toNat
    ∨ (kind = 0 ∧ 8 < length.toNat) ∨ (kind = 1 ∧ 7 < length.toNat) ∨ (kind = 1 ∧ deadline = 0)) :
    slotContent priority kind topic deadline length payload = none := by
  unfold slotContent SlotKind.ofCode
  split
  · rfl
  · rename_i k hk
    refine if_pos ?_
    split at hk
    · rename_i h0
      obtain rfl : k = .cue := (Option.some.inj hk).symm
      have hne : kind ≠ 1 := fun h1 => by rw [h1] at h0; exact absurd h0 (by decide)
      rcases h with h | h | h | ⟨-, h⟩ | ⟨h, -⟩ | ⟨h, -⟩
      · exact .inl h
      · omega
      · exact .inr (.inl h)
      · exact .inr (.inr (.inl h))
      · exact absurd h hne
      · exact absurd h hne
    · rename_i h1
      obtain rfl : k = .call := (Option.some.inj hk).symm
      have hne : kind ≠ 0 := fun h0 => by rw [h0] at h1; exact absurd h1 (by decide)
      rcases h with h | h | h | ⟨h, -⟩ | ⟨-, h⟩ | ⟨-, h⟩
      · exact .inl h
      · omega
      · exact .inr (.inl h)
      · exact absurd h hne
      · exact .inr (.inr (.inl h))
      · exact .inr (.inr (.inr ⟨rfl, by rw [h]; rfl⟩))
    · cases hk

theorem slotContent_of_cue (hp : priority.toNat ≤ 7) (ht : topic.toNat ≤ 4095) (hk : kind = 0)
    (hl : length.toNat ≤ 8) : slotContent priority kind topic deadline length payload = some { Slot.reset with
      state := .loaded
      priority := priority.extractLsb' 0 3
      topic := topic.extractLsb' 0 12
      payload := payload.toList.take length.toNat } := by
  subst hk
  rw [extractLsb'_zero_eq, extractLsb'_zero_eq]
  refine if_neg ?_
  simp only [reduceCtorEq, false_and, or_false]
  omega

theorem slotContent_of_call (hp : priority.toNat ≤ 7) (ht : topic.toNat ≤ 4095) (hk : kind = 1)
    (hl : length.toNat ≤ 7) (hd : deadline ≠ 0) :
    slotContent priority kind topic deadline length payload = some { Slot.reset with
      state := .loaded
      priority := priority.extractLsb' 0 3
      kind := .call
      topic := topic.extractLsb' 0 12
      payload := payload.toList.take length.toNat
      deadline := deadline.toNat } := by
  subst hk
  have hd' : deadline.toNat ≠ 0 := fun h0 => hd (BitVec.eq_of_toNat_eq h0)
  rw [extractLsb'_zero_eq, extractLsb'_zero_eq]
  refine if_neg ?_
  simp only [true_and]
  omega

end

section
variable {s : State} {i : Fin 8}

theorem takeSlotWrite_of_waiting (content : Option Slot)
    (h : (s.slot i).state = .pending ∨ (s.slot i).state = .sending) :
    takeSlotWrite content i s = .refuse s .busy := by
  rcases h with h | h <;> simp only [takeSlotWrite, h]

theorem takeSlotWrite_of_none (hp : (s.slot i).state ≠ .pending) (hs : (s.slot i).state ≠ .sending) :
    takeSlotWrite none i s = .refuse s .range := by
  unfold takeSlotWrite
  split <;> first | contradiction | rfl

theorem takeSlotWrite_of_some {x : Slot} (hp : (s.slot i).state ≠ .pending) (hs : (s.slot i).state ≠ .sending) :
    takeSlotWrite (some x) i s = .ok (s.setSlot i x) := by
  unfold takeSlotWrite
  split <;> first | contradiction | rfl

end

/-- A command on a member of its table that is refused. -/
theorem hostCommand_indexed_of_refuse {n : Nat} [NeZero n] {s : State} {c : Instr} {b : Byte} {i : Fin n}
    {body : Fin n → State → Taken} {st : Status} (h : s.ready c) (hb : b.toNat = i.val)
    (ht : body i s = .refuse s st) : s.hostCommand c (indexed n b body) = s.reply st [] :=
  hostCommand_of_refuse h ((indexed_of_val b i hb body s).trans ht)

/-- A command on a member of its table that is carried out and hands nothing on. -/
theorem hostCommand_indexed_of_ok {n : Nat} [NeZero n] {s t : State} {c : Instr} {b : Byte} {i : Fin n}
    {body : Fin n → State → Taken} {data : List Byte} (h : s.ready c) (hb : b.toNat = i.val)
    (ht : body i s = .ok t data) : s.hostCommand c (indexed n b body) = t.reply .ok data :=
  hostCommand_of_ok h ((indexed_of_val b i hb body s).trans ht)

/-- Settles O17: a slot whose request is under way, a field out of range, and the two kinds of content. -/
theorem slotWriteReplacesTheContent : Obligations.SlotWriteReplacesTheContent := by
  intro s b priority kind topic deadline length payload i c h hb
  refine ⟨fun hw => ?busy, fun hp hs hbad => ?range, fun hp hs h7 ht hk => ?written⟩
  case busy =>
    exact congrArg Host.Outcome.next (hostCommand_indexed_of_refuse h hb (takeSlotWrite_of_waiting _ hw))
  case range =>
    refine congrArg Host.Outcome.next (hostCommand_indexed_of_refuse h hb ?_)
    rw [slotContent_eq_none payload hbad]
    exact takeSlotWrite_of_none hp hs
  case written =>
    refine congrArg Host.Outcome.next (hostCommand_indexed_of_ok h hb ?_)
    rcases hk with ⟨rfl, hl⟩ | ⟨rfl, hl, hd⟩
    · rw [slotContent_of_cue payload h7 ht rfl hl]
      exact takeSlotWrite_of_some hp hs
    · rw [slotContent_of_call payload h7 ht rfl hl hd]
      exact takeSlotWrite_of_some hp hs

/-! ## SLOT REQUEST (R47 to R50) -/

section
variable {s : State} {i : Fin 8}

theorem requestSlot_of_empty (h : (s.slot i).state = .empty) : s.requestSlot i = (s, .empty) := by
  simp only [State.requestSlot, h]

theorem requestSlot_of_pending (h : (s.slot i).state = .pending) : s.requestSlot i = (s, .alreadyPending) := by
  simp only [State.requestSlot, h]

theorem requestSlot_of_sending (h : (s.slot i).state = .sending) :
    s.requestSlot i = (s.setSlot i { s.slot i with rerun := true }, .rerun) := by
  simp only [State.requestSlot, h]

theorem requestSlot_of_new {t : State} (he : (s.slot i).state ≠ .empty) (hp : (s.slot i).state ≠ .pending)
    (hs : (s.slot i).state ≠ .sending) (ht : s.newRequest i = some t) : s.requestSlot i = (t, .new) := by
  unfold State.requestSlot
  split <;> first | contradiction | simp only [ht]

theorem requestSlot_of_full (he : (s.slot i).state ≠ .empty) (hp : (s.slot i).state ≠ .pending)
    (hs : (s.slot i).state ≠ .sending) (ht : s.newRequest i = none) : s.requestSlot i = (s, .full) := by
  unfold State.requestSlot
  split <;> first | contradiction | simp only [ht]

theorem takeSlotRequest_of_offBus (h : s.lc.state = .config ∨ s.lc.state = .offline) :
    takeSlotRequest i s = .refuse s .state := by
  rcases h with h | h <;> simp only [takeSlotRequest, h]

variable (hf : s.follows)
include hf

theorem takeSlotRequest_of_empty {t : State} (h : s.requestSlot i = (t, .empty)) :
    takeSlotRequest i s = .refuse s .empty := by
  rcases hf with hf | hf | hf <;> simp only [takeSlotRequest, hf, h]

theorem takeSlotRequest_of_full {t : State} (h : s.requestSlot i = (t, .full)) :
    takeSlotRequest i s = .refuse s .full := by
  rcases hf with hf | hf | hf <;> simp only [takeSlotRequest, hf, h]

theorem takeSlotRequest_of_new {t : State} (h : s.requestSlot i = (t, .new)) :
    takeSlotRequest i s = .ok t (0 :: callFieldBytes (t.slot i).call) := by
  rcases hf with hf | hf | hf <;> simp only [takeSlotRequest, hf, h]

theorem takeSlotRequest_of_alreadyPending {t : State} (h : s.requestSlot i = (t, .alreadyPending)) :
    takeSlotRequest i s = .ok t (1 :: callFieldBytes (t.slot i).call) := by
  rcases hf with hf | hf | hf <;> simp only [takeSlotRequest, hf, h]

theorem takeSlotRequest_of_rerun {t : State} (h : s.requestSlot i = (t, .rerun)) :
    takeSlotRequest i s = .ok t (2 :: callFieldBytes (t.slot i).call) := by
  rcases hf with hf | hf | hf <;> simp only [takeSlotRequest, hf, h]

end

/-! ## SLOT ABORT (R51) -/

section
variable {s : State} {i : Fin 8}

theorem takeSlotAbort_of_idle (h : (s.slot i).state = .empty ∨ (s.slot i).state = .loaded
    ∨ (s.slot i).state = .sent ∨ (s.slot i).state = .failed ∨ (s.slot i).state = .aborted) :
    takeSlotAbort i s = .refuse s .state := by
  rcases h with h | h | h | h | h <;> simp only [takeSlotAbort, h]

theorem takeSlotAbort_of_sending (h : (s.slot i).state = .sending) :
    takeSlotAbort i s = .ok (s.setSlot i { s.slot i with abort := true, rerun := false }) := by
  simp only [takeSlotAbort, h]

/-- An abort in PENDING whose arrival hands on SLOT_DONE alone. -/
theorem exec_slotAbort_of_arrival {b : Byte} {t : State} (h : s.ready (.slotAbort b)) (hb : b.toNat = i.val)
    (hp : (s.slot i).state = .pending) (ha : s.arriveDone i .aborted [] = (t, [.slotDone i .aborted])) :
    exec (.slotAbort b) s = .next ((t.arbiter.reply .ok []).take (.slotDone i .aborted)) := by
  refine congrArg Host.Outcome.next ((hostCommand_of_ready h (indexed 8 b takeSlotAbort)).trans ?_)
  rw [indexed_of_val b i hb]
  simp only [takeSlotAbort, hp, ha]
  exact settleTasks_take _ _

/-- Outside SENDING no rerun mark stands (R59). -/
theorem rerun_of_pending (hm : s.MarksInv) (hp : (s.slot i).state = .pending) : (s.slot i).rerun = false := by
  refine Bool.eq_false_iff.mpr fun hr => ?_
  have hs := hm i (.inl hr)
  rw [hp] at hs
  cases hs

end

/-- Settles O19: a request by link state and slot state, and an abort by slot state and kind. -/
theorem slotRequestAndAbortFollowTheSlot : Obligations.SlotRequestAndAbortFollowTheSlot := by
  refine ⟨fun s b i h hb => ?request, fun s b i h hb => ?abort⟩
  case request =>
    have ok {t : State} {data : List Byte} (ht : takeSlotRequest i s = .ok t data) :
        exec (.slotRequest b) s = .next (t.reply .ok data) :=
      congrArg Host.Outcome.next (hostCommand_indexed_of_ok h hb ht)
    have refused {st : Status} (ht : takeSlotRequest i s = .refuse s st) :
        exec (.slotRequest b) s = .next (s.reply st []) :=
      congrArg Host.Outcome.next (hostCommand_indexed_of_refuse h hb ht)
    have idle (ha : (s.slot i).state = .loaded ∨ (s.slot i).state = .sent ∨ (s.slot i).state = .failed
        ∨ (s.slot i).state = .aborted) :
        (s.slot i).state ≠ .empty ∧ (s.slot i).state ≠ .pending ∧ (s.slot i).state ≠ .sending := by
      rcases ha with ha | ha | ha | ha <;> rw [ha] <;> decide
    refine ⟨fun hs => refused (takeSlotRequest_of_offBus hs),
      fun hf hx => refused (takeSlotRequest_of_empty hf (requestSlot_of_empty hx)), fun hf hx => ?pending,
      fun hf hx => ?sending, fun hf ha hk => ?cue, fun k hf ha hk hfree hlow => ?call,
      fun hf ha hk hnone => ?full⟩
    case pending =>
      rw [ok (takeSlotRequest_of_alreadyPending hf (requestSlot_of_pending hx)), callFieldBytes_eq] <;> rfl
    case sending =>
      rw [ok (takeSlotRequest_of_rerun hf (requestSlot_of_sending hx)), State.slot_setSlot_self,
        callFieldBytes_eq] <;> rfl
    case cue =>
      obtain ⟨he, hp, hs⟩ := idle ha
      rw [ok (takeSlotRequest_of_new hf (requestSlot_of_new he hp hs (newRequest_of_cue hk))),
        State.slot_arbiter, State.slot_setSlot_self]
      rfl
    case call =>
      obtain ⟨he, hp, hs⟩ := idle ha
      rw [ok (takeSlotRequest_of_new hf (requestSlot_of_new he hp hs
        (newRequest_of_call hk (lowestFreeCall_eq_some.mpr ⟨hfree, hlow⟩)))), State.slot_arbiter,
        State.slot_setSlot_self]
      rfl
    case full =>
      obtain ⟨he, hp, hs⟩ := idle ha
      exact refused (takeSlotRequest_of_full hf
        (requestSlot_of_full he hp hs (newRequest_of_no_free hk (lowestFreeCall_eq_none.mpr hnone))))
  case abort =>
    refine ⟨fun hx => congrArg Host.Outcome.next (hostCommand_indexed_of_refuse h hb (takeSlotAbort_of_idle hx)),
      fun hx => congrArg Host.Outcome.next (hostCommand_indexed_of_ok h hb (takeSlotAbort_of_sending hx)),
      fun hx hk hm => ?cue, fun k g hx hk hc hm => ?call⟩
    case cue =>
      refine exec_slotAbort_of_arrival h hb hx ((arriveDone_of_cue hk _ _).trans ?_)
      rw [applyRerun_of_unmarked (by simpa using rerun_of_pending hm hx)]
      rfl
    case call =>
      refine exec_slotAbort_of_arrival h hb hx ((arriveDone_of_released hk hc DoneState.noConfusion _).trans ?_)
      rw [applyRerun_of_unmarked (by simpa using rerun_of_pending hm hx)]
      rfl

/-! ## CALL WITHDRAW, CALL CLEAR, OBL FINISH, OBL DISCARD -/

/-- Settles O20: each command in the state that it is for, and in the others. -/
theorem callWithdrawAndClearFollowTheEntry : Obligations.CallWithdrawAndClearFollowTheEntry := by
  intro s b k hb
  refine ⟨fun h hs => congrArg Host.Outcome.next (hostCommand_indexed_of_ok h hb ?withdraw),
    fun h hs => congrArg Host.Outcome.next (hostCommand_indexed_of_refuse h hb ?no_withdraw),
    fun h hs => congrArg Host.Outcome.next (hostCommand_indexed_of_ok h hb ?clear),
    fun h hs => congrArg Host.Outcome.next (hostCommand_indexed_of_refuse h hb ?no_clear)⟩
  case withdraw => simp only [takeCallWithdraw, hs]
  case clear =>
    simp only [takeCallClear, hs]
    rfl
  case no_withdraw => unfold takeCallWithdraw; split <;> first | contradiction | rfl
  case no_clear => unfold takeCallClear; split <;> first | contradiction | rfl

theorem exec_oblFinish_of_count {s : State} {b st n : Byte} {bytes : Vector Byte 6} {o : Fin 8}
    (h : s.ready (.oblFinish b st n bytes)) (hb : b.toNat = o.val) (hn : n.toNat ≤ 6) :
    exec (.oblFinish b st n bytes) s = .next (((takeOblFinish st (bytes.toList.take n.toNat) o s).state.reply
      (takeOblFinish st (bytes.toList.take n.toNat) o s).status
      (takeOblFinish st (bytes.toList.take n.toNat) o s).data).settleTasks
      (takeOblFinish st (bytes.toList.take n.toNat) o s).series) := by
  refine congrArg Host.Outcome.next ((hostCommand_of_ready h _).trans ?_)
  rw [if_neg (Nat.not_lt.mpr hn), indexed_of_val b o hb]

/-- Settles O21: each command by the entry's state, OBL DISCARD by whether its DONE is in flight. -/
theorem oblFinishAndDiscardFollowTheEntry : Obligations.OblFinishAndDiscardFollowTheEntry := by
  intro s b o hb
  refine ⟨fun st n bytes h hn hs => ?finish, fun st n bytes h hn ho hf => ?no_finish,
    fun h hs => congrArg Host.Outcome.next (hostCommand_indexed_of_ok h hb ?discard),
    fun h hs hf => congrArg Host.Outcome.next (hostCommand_indexed_of_refuse h hb ?in_flight),
    fun h hs => congrArg Host.Outcome.next (hostCommand_indexed_of_refuse h hb ?no_discard)⟩
  case finish =>
    rw [exec_oblFinish_of_count h hb hn]
    rcases hs with hs | hs <;> simp only [takeOblFinish, hs] <;> exact congrArg Host.Outcome.next (settleTasks_nil _)
  case no_finish =>
    have ht : takeOblFinish st (bytes.toList.take n.toNat) o s = .refuse s .state := by
      unfold takeOblFinish
      split <;> first | contradiction | rfl
    rw [exec_oblFinish_of_count h hb hn, ht]
    exact congrArg Host.Outcome.next (settleTasks_nil _)
  case discard =>
    rcases hs with hs | hs | hs | ⟨hs, hf⟩
    · simp only [takeOblDiscard, hs]; rfl
    · simp only [takeOblDiscard, hs]; rfl
    · simp only [takeOblDiscard, hs]; rfl
    · have hnot : s.doneInFlight o = false := by simpa [State.doneInFlight] using hf
      simp only [takeOblDiscard, hs, hnot, Bool.false_eq_true, if_false]
      rfl
  case in_flight =>
    have hin : s.doneInFlight o = true := by simp [State.doneInFlight, hf]
    simp only [takeOblDiscard, hs, hin, if_true]
  case no_discard => rcases hs with hs | hs <;> simp only [takeOblDiscard, hs]

end Sys2Proof.Machine
end

section
/-! SUPPORT. The command table (R209): the words that two and three bytes carry, and the commands that bytes name. -/

namespace Sys2Proof.Machine

/-! ## Words in bytes, most significant first (R206) -/

theorem hi16_append (a b : Byte) : hi16 (a ++ b) = a := by
  apply BitVec.eq_of_getLsbD_eq
  intro i hi
  simp only [hi16, BitVec.getLsbD_extractLsb', BitVec.getLsbD_append]
  simp [hi]

theorem lo16_append (a b : Byte) : lo16 (a ++ b) = b := by
  apply BitVec.eq_of_getLsbD_eq
  intro i hi
  simp only [lo16, BitVec.getLsbD_extractLsb', BitVec.getLsbD_append]
  simp [hi]

theorem append_hi16_lo16 (w : BitVec 16) : hi16 w ++ lo16 w = w := by
  apply BitVec.eq_of_getLsbD_eq
  intro i hi
  simp only [hi16, lo16, BitVec.getLsbD_extractLsb', BitVec.getLsbD_append]
  by_cases h : i < 8
  · simp [h]
  · have h8 : i - 8 < 8 := by omega
    simp [h, h8, show 8 + (i - 8) = i by omega]

/-- A number of three bytes by its bytes. -/
theorem append_thirds (w : BitVec 24) : w.extractLsb' 16 8 ++ w.extractLsb' 8 8 ++ w.extractLsb' 0 8 = w := by
  apply BitVec.eq_of_toNat_eq
  simp only [toNat_append_eq, BitVec.extractLsb'_toNat, Nat.shiftRight_eq_div_pow]
  have := w.isLt
  omega

theorem thirds_append (a b c : Byte) : (a ++ b ++ c).extractLsb' 16 8 = a ∧ (a ++ b ++ c).extractLsb' 8 8 = b
    ∧ (a ++ b ++ c).extractLsb' 0 8 = c := by
  have ha := a.isLt
  have hb := b.isLt
  have hc := c.isLt
  refine ⟨?_, ?_, ?_⟩ <;> apply BitVec.eq_of_toNat_eq <;>
    simp only [toNat_append_eq, BitVec.extractLsb'_toNat, Nat.shiftRight_eq_div_pow] <;> omega

/-! ## Lists and vectors of a known length -/

theorem list_of_length_four {α : Type} {l : List α} (h : l.length = 4) :
    ∃ a0 a1 a2 a3, l = [a0, a1, a2, a3] := by
  match l, h with
  | [a0, a1, a2, a3], _ => exact ⟨a0, a1, a2, a3, rfl⟩

theorem list_of_length_six {α : Type} {l : List α} (h : l.length = 6) :
    ∃ a0 a1 a2 a3 a4 a5, l = [a0, a1, a2, a3, a4, a5] := by
  match l, h with
  | [a0, a1, a2, a3, a4, a5], _ => exact ⟨a0, a1, a2, a3, a4, a5, rfl⟩

theorem list_of_length_eight {α : Type} {l : List α} (h : l.length = 8) :
    ∃ a0 a1 a2 a3 a4 a5 a6 a7, l = [a0, a1, a2, a3, a4, a5, a6, a7] := by
  match l, h with
  | [a0, a1, a2, a3, a4, a5, a6, a7], _ => exact ⟨a0, a1, a2, a3, a4, a5, a6, a7, rfl⟩

theorem list_of_length_nine {α : Type} {l : List α} (h : l.length = 9) :
    ∃ a0 a1 a2 a3 a4 a5 a6 a7 a8, l = [a0, a1, a2, a3, a4, a5, a6, a7, a8] := by
  match l, h with
  | [a0, a1, a2, a3, a4, a5, a6, a7, a8], _ => exact ⟨a0, a1, a2, a3, a4, a5, a6, a7, a8, rfl⟩

theorem list_of_length_eleven {α : Type} {l : List α} (h : l.length = 11) :
    ∃ a0 a1 a2 a3 a4 a5 a6 a7 a8 a9 a10, l = [a0, a1, a2, a3, a4, a5, a6, a7, a8, a9, a10] := by
  match l, h with
  | [a0, a1, a2, a3, a4, a5, a6, a7, a8, a9, a10], _ => exact ⟨a0, a1, a2, a3, a4, a5, a6, a7, a8, a9, a10, rfl⟩

theorem list_of_length_thirteen {α : Type} {l : List α} (h : l.length = 13) :
    ∃ a0 a1 a2 a3 a4 a5 a6 a7 a8 a9 a10 a11 a12, l = [a0, a1, a2, a3, a4, a5, a6, a7, a8, a9, a10, a11, a12] := by
  match l, h with
  | [a0, a1, a2, a3, a4, a5, a6, a7, a8, a9, a10, a11, a12], _ => exact ⟨a0, a1, a2, a3, a4, a5, a6, a7, a8, a9, a10, a11, a12, rfl⟩

theorem list_of_length_sixteen {α : Type} {l : List α} (h : l.length = 16) :
    ∃ a0 a1 a2 a3 a4 a5 a6 a7 a8 a9 a10 a11 a12 a13 a14 a15, l = [a0, a1, a2, a3, a4, a5, a6, a7, a8, a9, a10, a11, a12, a13, a14, a15] := by
  match l, h with
  | [a0, a1, a2, a3, a4, a5, a6, a7, a8, a9, a10, a11, a12, a13, a14, a15], _ => exact ⟨a0, a1, a2, a3, a4, a5, a6, a7, a8, a9, a10, a11, a12, a13, a14, a15, rfl⟩

theorem vector_of_length_six {α : Type} (v : Vector α 6) :
    ∃ a0 a1 a2 a3 a4 a5, v = #v[a0, a1, a2, a3, a4, a5] := by
  obtain ⟨a0, a1, a2, a3, a4, a5, h⟩ := list_of_length_six v.length_toList
  exact ⟨a0, a1, a2, a3, a4, a5, Vector.toList_inj.mp h⟩

theorem vector_of_length_eight {α : Type} (v : Vector α 8) :
    ∃ a0 a1 a2 a3 a4 a5 a6 a7, v = #v[a0, a1, a2, a3, a4, a5, a6, a7] := by
  obtain ⟨a0, a1, a2, a3, a4, a5, a6, a7, h⟩ := list_of_length_eight v.length_toList
  exact ⟨a0, a1, a2, a3, a4, a5, a6, a7, Vector.toList_inj.mp h⟩

theorem vector_of_length_eleven {α : Type} (v : Vector α 11) :
    ∃ a0 a1 a2 a3 a4 a5 a6 a7 a8 a9 a10, v = #v[a0, a1, a2, a3, a4, a5, a6, a7, a8, a9, a10] := by
  obtain ⟨a0, a1, a2, a3, a4, a5, a6, a7, a8, a9, a10, h⟩ := list_of_length_eleven v.length_toList
  exact ⟨a0, a1, a2, a3, a4, a5, a6, a7, a8, a9, a10, Vector.toList_inj.mp h⟩

/-! ## Commands and their bytes -/

/-- The bytes that a command sends name it. -/
theorem decodeCommand_of_encode {c : Instr} {bytes : List Byte} (h : encodeCommand c = some bytes) :
    decodeCommand bytes = some c := by
  cases c
  case load k i f =>
    obtain ⟨a0, a1, a2, a3, a4, a5, a6, a7, a8, a9, a10, rfl⟩ := vector_of_length_eleven f
    cases h
    rfl
  case slotWrite sl p k t d n y =>
    obtain ⟨a0, a1, a2, a3, a4, a5, a6, a7, rfl⟩ := vector_of_length_eight y
    cases h
    show some (Instr.slotWrite sl p k (hi16 t ++ lo16 t) (hi16 d ++ lo16 d) n _) = _
    rw [append_hi16_lo16, append_hi16_lo16]
  case oblFinish e st n b =>
    obtain ⟨a0, a1, a2, a3, a4, a5, rfl⟩ := vector_of_length_six b
    cases h
    rfl
  case timerLimit t l =>
    cases h
    show some (Instr.timerLimit t _) = _
    rw [append_thirds]
  case enableWrite e =>
    cases h
    show some (Instr.enableWrite (hi16 e ++ lo16 e)) = _
    rw [append_hi16_lo16]
  all_goals cases h
  all_goals rfl

/-- A byte of a known value. -/
theorem eq_of_toNat {code : Byte} {n : Nat} (h : code.toNat = n) : code = BitVec.ofNat 8 n := by
  rw [← h, BitVec.ofNat_toNat]
  rfl

/-- The codes of the command table. -/
def tableCodes : List Nat :=
  [0x01, 0x02, 0x03, 0x04, 0x05, 0x06, 0x07, 0x08, 0x10, 0x11, 0x12, 0x13, 0x14, 0x18, 0x19, 0x20, 0x21, 0x22, 0x28,
    0x29, 0x2A, 0x30, 0x31, 0x32, 0x33, 0x38, 0x39, 0x3A, 0x3B, 0x3C, 0x3D, 0x40, 0x41, 0x42, 0x48, 0x49, 0x50, 0x51,
    0x52, 0x53]

/-- A code of the table has its count of parameters. -/
theorem paramCount_isSome {code : Byte} {n : Nat} (hn : n ∈ tableCodes) (h : code.toNat = n) :
    (paramCount code).isSome = true := by
  have hall : ∀ m ∈ tableCodes, (paramCount (BitVec.ofNat 8 m)).isSome = true := by decide
  rw [eq_of_toNat h]
  exact hall n hn

/-- A code outside the table names no command. -/
theorem decodeCommand_of_unlisted {code : Byte} (h : paramCount code = none) (ps : List Byte) :
    decodeCommand (code :: ps) = none := by
  have hne {n : Nat} (hn : n ∈ tableCodes) : code.toNat ≠ n := fun hc => by
    have := paramCount_isSome hn hc
    rw [h] at this
    cases this
  unfold decodeCommand decodeCommand.match_1
  iterate 40
    refine (dif_neg (hne ?_)).trans ?_
    · decide
  rfl

/-- The bytes that name a command are the bytes it sends. -/
theorem encodeCommand_of_decode {c : Instr} {bytes : List Byte} (h : decodeCommand bytes = some c) :
    encodeCommand c = some bytes := by
  cases bytes with
  | nil => cases h
  | cons code ps =>
    cases hp : paramCount code with
    | none =>
      rw [decodeCommand_of_unlisted hp] at h
      cases h
    | some n =>
      unfold paramCount at hp
      split at hp
      all_goals cases hp
      all_goals
        rename_i hc
        obtain rfl := eq_of_toNat hc
        clear hc
        rcases ps with _ | ⟨a0, _ | ⟨a1, _ | ⟨a2, _ | ⟨a3, _ | ⟨a4, ps⟩⟩⟩⟩⟩
      all_goals try cases h
      case h_8.refl.cons.cons.cons.cons.cons | h_9.refl.cons.cons.cons.cons.cons
          | h_19.refl.cons.cons.cons.cons.cons =>
        rcases ps with _ | ⟨a5, _ | ⟨a6, _ | ⟨a7, _ | ⟨a8, _ | ⟨a9, _ | ⟨a10, _ | ⟨a11, _ | ⟨a12, _ | ⟨a13, _ | ⟨a14, _ | ⟨a15, _ | ⟨a16, ps⟩⟩⟩⟩⟩⟩⟩⟩⟩⟩⟩⟩
        all_goals cases h
        simp only [encodeCommand, hi16_append, lo16_append]
        rfl
      all_goals simp only [encodeCommand, hi16_append, lo16_append, thirds_append]
      all_goals rfl

/-- A command sends as many parameter bytes as the table gives its code. -/
theorem paramCount_of_encode {c : Instr} {code : Byte} {ps : List Byte}
    (h : encodeCommand c = some (code :: ps)) : paramCount code = some ps.length := by
  cases c
  case load k i f =>
    cases h
    simp only [List.length_cons, Vector.length_toList]
    rfl
  case slotWrite sl p k t d n y =>
    cases h
    simp only [List.append_eq, List.length_append, List.length_cons, List.length_nil, Vector.length_toList]
    rfl
  case oblFinish e st n b =>
    cases h
    simp only [List.append_eq, List.length_append, List.length_cons, List.length_nil, Vector.length_toList]
    rfl
  all_goals cases h
  all_goals rfl

/-- A code of the table with its count of parameter bytes names a command. -/
theorem decodeCommand_of_paramCount {code : Byte} {ps : List Byte} (h : paramCount code = some ps.length) :
    ∃ c, decodeCommand (code :: ps) = some c := by
  unfold paramCount at h
  split at h
  all_goals
    rename_i hc
    first
      | cases h
      | rw [eq_of_toNat hc]
        have hl := (Option.some.inj h).symm
  case h_8 =>
    obtain ⟨a0, a1, a2, a3, a4, a5, a6, a7, a8, a9, a10, a11, a12, rfl⟩ := list_of_length_thirteen hl
    exact ⟨_, rfl⟩
  case h_9 =>
    obtain ⟨a0, a1, a2, a3, a4, a5, a6, a7, a8, a9, a10, a11, a12, a13, a14, a15, rfl⟩ :=
      list_of_length_sixteen hl
    exact ⟨_, rfl⟩
  case h_19 =>
    obtain ⟨a0, a1, a2, a3, a4, a5, a6, a7, a8, rfl⟩ := list_of_length_nine hl
    exact ⟨_, rfl⟩
  case h_28 =>
    obtain ⟨a0, a1, a2, a3, rfl⟩ := list_of_length_four hl
    exact ⟨_, rfl⟩
  case h_35 | h_40 =>
    obtain ⟨a0, a1, rfl⟩ := List.length_eq_two.mp hl
    exact ⟨_, rfl⟩
  all_goals
    first
      | obtain rfl := List.length_eq_zero_iff.mp hl
        exact ⟨_, rfl⟩
      | obtain ⟨a0, rfl⟩ := List.length_eq_one_iff.mp hl
        exact ⟨_, rfl⟩

/-- Settles O13: the two directions of the encoding, the table's counts, and a command for every count that fits. -/
theorem commandBytesNameTheCommand : Obligations.CommandBytesNameTheCommand := by
  refine ⟨fun c bytes => ⟨decodeCommand_of_encode, encodeCommand_of_decode⟩, fun c code ps => paramCount_of_encode,
    fun code ps h => ?_⟩
  obtain ⟨c, hc⟩ := decodeCommand_of_paramCount h
  exact ⟨c, encodeCommand_of_decode hc⟩

end Sys2Proof.Machine
end

section
/-! SUPPORT. The commands of the Timing Unit and the Line Unit (R161 to R177): timers, counters, trains and
outputs. -/

namespace Sys2Proof.Machine

section
variable {s : State} {n : Nat} [NeZero n] {b : Byte} {i : Fin n} {c : Instr} {body : Fin n → State → Taken}

/-- After JOIN a command on a member of its table, with what it hands on. -/
theorem hostCommand_indexed_afterJoin (h : s.ready c) (hb : b.toNat = i.val) (hc : s.lc.state ≠ .config) :
    s.hostCommand c (indexed n b fun i => afterJoin (body i))
      = ((body i s).state.reply (body i s).status (body i s).data).settleTasks (body i s).series := by
  rw [hostCommand_of_ready h, indexed_of_val b i hb, afterJoin_of_ne_config hc]

end

/-! ## Timers (R161, R162) -/

theorem expiresBy_of_running {t : Timer} {limit : Nat} (hr : t.running = true) (hl : limit ≤ t.count) :
    t.expiresBy limit = true := by simp [Timer.expiresBy, hr, hl]

theorem expiresBy_of_stopped {t : Timer} {limit : Nat} (hr : t.running = false) : t.expiresBy limit = false := by
  simp [Timer.expiresBy, hr]

theorem expiresBy_of_below {t : Timer} {limit : Nat} (hl : t.count < limit) : t.expiresBy limit = false := by
  simp [Timer.expiresBy, Nat.not_le.mpr hl]

theorem withLimit_of_unreached {t : Timer} {limit : Nat} (he : t.expiring = true) (hl : t.count + 1 < limit) :
    t.withLimit limit = { t with limit := limit, count := t.count + 1, expiring := false } := if_pos ⟨he, hl⟩

theorem withLimit_of_not_expiring {t : Timer} {limit : Nat} (he : t.expiring = false) :
    t.withLimit limit = { t with limit := limit } := if_neg fun h => by simp [he] at h

theorem withLimit_of_reached {t : Timer} {limit : Nat} (hl : limit ≤ t.count + 1) :
    t.withLimit limit = { t with limit := limit } := if_neg fun h => Nat.not_lt.mpr hl h.2

theorem timerExpired_eq (t : Timer) : t.expired
    = { t with running := if t.mode = .once then false else true, count := 0, expiring := false } := by
  unfold Timer.expired
  cases t.mode <;> rfl

theorem two_zero : two 0 = [0, 0] := by decide

theorem three_zero : three 0 = [0, 0, 0] := by decide

theorem timerStateBytes_eq (t : Timer) : t.stateBytes = boolByte t.running :: three t.count := by
  rw [Timer.stateBytes, be_three]

section
variable {s : State} {b : Byte} {t : Fin 4} {limit : BitVec 24} (hb : b.toNat = t.val)
  (hs : s.lc.state ≠ .config) (h : s.ready (.timerLimit b limit)) (h0 : limit ≠ 0)
include hb hs h h0

theorem exec_timerLimit_of_ne_config : exec (.timerLimit b limit) s
    = .next (((takeTimerLimit limit.toNat t s).state.reply (takeTimerLimit limit.toNat t s).status
      (takeTimerLimit limit.toNat t s).data).settleTasks (takeTimerLimit limit.toNat t s).series) := by
  refine congrArg Host.Outcome.next ((hostCommand_of_ready h _).trans ?_)
  rw [if_neg h0, indexed_of_val b t hb, afterJoin_of_ne_config hs]

/-- A timer that the new limit does not expire. -/
theorem exec_timerLimit_of_not_expires (hx : (s.timer t).expiresBy limit.toNat = false) :
    exec (.timerLimit b limit) s
      = .next ((s.setTimer t ((s.timer t).withLimit limit.toNat)).reply .ok []) := by
  rw [exec_timerLimit_of_ne_config hb hs h h0]
  simp only [takeTimerLimit, hx, Bool.false_eq_true, if_false]
  exact congrArg Host.Outcome.next (settleTasks_nil _)

/-- A RUNNING timer at or above its new limit expires in the same event. -/
theorem exec_timerLimit_of_expires (hx : (s.timer t).expiresBy limit.toNat = true) :
    exec (.timerLimit b limit) s
      = .next (((s.setTimer t { (s.timer t).expired with limit := limit.toNat }).reply .ok []).take
        (.timerExpire t)) := by
  rw [exec_timerLimit_of_ne_config hb hs h h0]
  simp only [takeTimerLimit, hx, if_true]
  exact congrArg Host.Outcome.next (settleTasks_take _ _)

end

/-! ## Counters (R166) -/

theorem admits_iff (x : CounterEdge) (e : Edge) : x.admits e = true
    ↔ x = .both ∨ (x = .rise ∧ e = .rise) ∨ (x = .fall ∧ e = .fall) := by
  cases x <;> cases e <;> simp [CounterEdge.admits]

theorem countEdge_of_admitted {s : State} {c : Fin 2} {k : Fin 8} {e : Edge} (hs : s.lc.state ≠ .config)
    (hk : (s.counter c).source = k) (ha : (s.counter c).edge.admits e = true) : s.countEdge c k e
      = (s.setCounter c { s.counter c with count := (s.counter c).count + 1 },
        if (s.counter c).count + 1 = (s.counter c).compare then [.countMatch c] else []) := by
  refine if_pos ?_
  simp [hs, hk, ha]

theorem countEdge_of_not_admitted {s : State} {c : Fin 2} {k : Fin 8} {e : Edge}
    (h : s.lc.state = .config ∨ (s.counter c).source ≠ k ∨ ¬ (s.counter c).edge.admits e = true) :
    s.countEdge c k e = (s, []) := by
  refine if_neg ?_
  rcases h with h | h | h <;> simp [h]

/-- Settles O27: the timer commands by the timer's state and the new limit; the counter's command, and the counting
of an edge that its counter admits or does not. -/
theorem timerAndCounterCommandsDoTheirEffect : Obligations.TimerAndCounterCommandsDoTheirEffect := by
  refine ⟨fun s b t hb hs => ⟨fun h => ?start, fun h => ?stop, fun limit h h0 => ⟨fun hr he => ?stopped,
    fun hr hl he => ?below, fun hr hl => ?expires, fun he hl => ?unreached, fun he hl => ?reached⟩⟩,
    ⟨fun s b c h hb hs => ?clear, fun s c k e => ⟨fun hs hk ha => ?counts, fun hno => ?idle⟩⟩⟩
  case start =>
    refine congrArg Host.Outcome.next ((hostCommand_indexed_afterJoin_of_ok h hb hs rfl).trans ?_)
    rw [State.startTimer, State.timer_setTimer_self, timerStateBytes_eq]
    exact congrArg (State.reply _ .ok) (congrArg (List.cons 1) three_zero)
  case stop =>
    refine congrArg Host.Outcome.next ((hostCommand_indexed_afterJoin_of_ok h hb hs rfl).trans ?_)
    rw [State.stopTimer, State.timer_setTimer_self, timerStateBytes_eq]
    exact congrArg (State.reply _ .ok) (congrArg (List.cons 0) three_zero)
  case stopped =>
    rw [exec_timerLimit_of_not_expires hb hs h h0 (expiresBy_of_stopped hr), withLimit_of_not_expiring he]
  case below =>
    rw [exec_timerLimit_of_not_expires hb hs h h0 (expiresBy_of_below hl), withLimit_of_not_expiring he]
  case expires =>
    rw [exec_timerLimit_of_expires hb hs h h0 (expiresBy_of_running hr hl), timerExpired_eq]
  case unreached =>
    rw [exec_timerLimit_of_not_expires hb hs h h0 (expiresBy_of_below (by omega)), withLimit_of_unreached he hl]
  case reached =>
    rw [exec_timerLimit_of_not_expires hb hs h h0 (expiresBy_of_below (by omega)), withLimit_of_reached hl.ge]
  case clear => exact congrArg Host.Outcome.next (hostCommand_indexed_afterJoin_of_ok h hb hs rfl)
  case counts => exact countEdge_of_admitted hs hk ((admits_iff _ _).mpr ha)
  case idle =>
    refine countEdge_of_not_admitted ?_
    rw [admits_iff]
    exact hno

/-! ## Trains (R169 to R172) -/

theorem driveTrain_setTrain (s : State) (g : Fin 2) (x : Train) (active : Bool) :
    (s.setTrain g x).driveTrain g active = (s.setTrain g x).setOutput x.line
      { s.output x.line with level := (s.output x.line).rest != active } := by
  simp only [State.driveTrain, State.driveOutput, State.train_setTrain_self, State.output_setTrain]

theorem startTrain_eq (s : State) (g : Fin 2) : s.startTrain g = (s.setTrain g { s.train g with
      running := true, part := .rest, elapsed := 0, pulses := 0, stopMark := false, edgeDue := false
      }).setOutput (s.train g).line
        { s.output (s.train g).line with level := (s.output (s.train g).line).rest } := by
  rw [State.startTrain, driveTrain_setTrain, Bool.bne_false]

theorem stopTrain_of_idle {s : State} {g : Fin 2} (h : (s.train g).running = false) :
    s.stopTrain g = (s, []) := by simp [State.stopTrain, h]

theorem stopTrain_of_rest {s : State} {g : Fin 2} (h : (s.train g).running = true)
    (hp : (s.train g).part = .rest) :
    s.stopTrain g = (s.setTrain g (s.train g).idled, [.trainDone g .stopped]) := by simp [State.stopTrain, h, hp]

theorem stopTrain_of_active {s : State} {g : Fin 2} (h : (s.train g).running = true)
    (hp : (s.train g).part = .active) :
    s.stopTrain g = (s.setTrain g { s.train g with stopMark := true }, []) := by
  simp [State.stopTrain, h, hp]

theorem exec_trainStop_of_ne_config {s : State} {b : Byte} {g : Fin 2} (h : s.ready (.trainStop b))
    (hb : b.toNat = g.val) (hs : s.lc.state ≠ .config) : exec (.trainStop b) s
      = .next (((s.stopTrain g).1.reply .ok (boolByte ((s.stopTrain g).1.train g).running
        :: two ((s.stopTrain g).1.train g).pulses.toNat)).settleTasks (separately (s.stopTrain g).2)) := by
  rw [← be_two]
  exact congrArg Host.Outcome.next (hostCommand_indexed_afterJoin h hb hs)

/-- Settles O28: a start from either state, and a stop by state and part. -/
theorem trainCommandsStartAndStop : Obligations.TrainCommandsStartAndStop := by
  intro s b g hb hs
  refine ⟨fun h => ?start, fun h hr => ?idle, fun h hr hp => ?rest, fun h hr hp => ?active⟩
  case start =>
    refine congrArg Host.Outcome.next ((hostCommand_indexed_afterJoin_of_ok h hb hs rfl).trans ?_)
    rw [startTrain_eq, State.train_setOutput, State.train_setTrain_self, Train.stateBytes, be_two]
    exact congrArg (State.reply _ .ok) (congrArg (List.cons 1) two_zero)
  case idle =>
    rw [exec_trainStop_of_ne_config h hb hs, stopTrain_of_idle hr, hr]
    exact congrArg Host.Outcome.next (settleTasks_nil _)
  case rest =>
    rw [exec_trainStop_of_ne_config h hb hs, stopTrain_of_rest hr hp, State.train_setTrain_self]
    exact congrArg Host.Outcome.next (settleTasks_take _ _)
  case active =>
    rw [exec_trainStop_of_ne_config h hb hs, stopTrain_of_active hr hp, State.train_setTrain_self]
    refine congrArg Host.Outcome.next ((settleTasks_nil _).trans ?_)
    simp only [hr]
    rfl

/-! ## Outputs (R177) -/

/-- A line that is written takes its level, and any other is left as it was. -/
theorem output_foldl_driveOutput (lines levels : Byte) (l : List (Fin 8)) (s : State) (k : Fin 8) :
    (l.foldl (fun t k => if lines.getLsbD k.val then t.driveOutput k (levels.getLsbD k.val) else t) s).output k
      = if k ∈ l ∧ lines.getLsbD k.val = true then { s.output k with level := levels.getLsbD k.val }
        else s.output k := by
  induction l generalizing s with
  | nil => simp
  | cons a l ih =>
    rw [List.foldl_cons, ih]
    by_cases ha : lines.getLsbD a.val = true
    · rw [if_pos ha]
      by_cases hk : k = a
      · subst hk
        simp [State.driveOutput, ha]
      · simp [State.driveOutput, State.output_setOutput, hk]
    · rw [if_neg ha]
      by_cases hk : k = a
      · subst hk
        rw [if_neg fun h => ha h.2, if_neg fun h => ha h.2]
      · simp [hk]

theorem output_writeOutputs (s : State) (lines levels : Byte) (k : Fin 8) :
    (s.writeOutputs lines levels).output k = if lines.getLsbD k.val then
      { s.output k with level := levels.getLsbD k.val } else s.output k := by
  rw [State.writeOutputs, output_foldl_driveOutput]
  simp only [List.mem_finRange, true_and]

theorem namesTrainLine_iff (s : State) (lines : Byte) : s.namesTrainLine lines = true
    ↔ ∃ k : Fin 8, lines.getLsbD k.val = true ∧ (s.output k).owner ≠ .level := by
  simp [State.namesTrainLine]

/-- Settles O29: OUTPUT WRITE where a train owns a named line, and where none does. -/
theorem outputWriteSetsTheNamedLines : Obligations.OutputWriteSetsTheNamedLines := by
  intro s lines levels h hs
  refine ⟨fun k hk ho => ?refused, fun hfree => ?written⟩
  case refused =>
    refine congrArg Host.Outcome.next (hostCommand_of_refuse h ((afterJoin_of_ne_config hs _).trans (if_pos ?_)))
    exact (namesTrainLine_iff s lines).mpr ⟨k, hk, ho⟩
  case written =>
    refine ⟨s.writeOutputs lines levels, (s.writeOutputs lines levels).outputByte, ?_,
      writeOutputs_frame s lines levels, output_writeOutputs s lines levels, levelsByte_getLsbD _⟩
    refine congrArg Host.Outcome.next (hostCommand_of_ok h ((afterJoin_of_ne_config hs _).trans (if_neg ?_)))
    intro hn
    obtain ⟨k, hk, ho⟩ := (namesTrainLine_iff s lines).mp hn
    exact ho (hfree k hk)

end Sys2Proof.Machine
end

section
/-! SUPPORT. The Event Unit's commands (R199 to R204), and the verdict that keeps call tags apart (R113, R114). -/

namespace Sys2Proof.Machine

/-! ## Flags, enables and INT (R199 to R203) -/

/-- Every position of the flags is that of a flag. -/
theorem exists_flag_ix (p : Fin 12) : ∃ f : Flag, f.ix = p := by
  have hall : ∀ p : Fin 12, p ∈ [Flag.holdNote, .linkNote, .reactLimit, .rxOverrun, .callSettled, .oblNote,
      .callNote, .oblOpened, .slotDone, .reactNotice, .rxReady, .busError].map Flag.ix := by decide
  obtain ⟨f, -, hf⟩ := List.mem_map.mp (hall p)
  exact ⟨f, hf⟩

/-- A bit field is not empty where it has a member. -/
theorem ne_zero_iff_getLsbD {n : Nat} (v : BitVec n) : v ≠ 0 ↔ ∃ p : Fin n, v.getLsbD p.val = true := by
  constructor
  · intro h
    by_contra hno
    refine h (BitVec.eq_of_getLsbD_eq fun i hi => ?_)
    refine Eq.trans ?_ (BitVec.getLsbD_zero).symm
    rw [Bool.eq_false_iff]
    exact fun hb => hno ⟨⟨i, hi⟩, hb⟩
  · rintro ⟨p, hp⟩ rfl
    simp at hp

theorem intLow_iff (s : State) :
    s.intLow = true ↔ ∃ f, s.flag f = true ∧ s.eu.enables.getLsbD f.ix.val = true := by
  unfold State.intLow State.flag
  rw [bne_iff_ne, ne_zero_iff_getLsbD]
  simp only [BitVec.getLsbD_and, Bool.and_eq_true]
  constructor
  · rintro ⟨p, hp⟩
    obtain ⟨f, rfl⟩ := exists_flag_ix p
    exact ⟨f, hp⟩
  · rintro ⟨f, hf⟩
    exact ⟨f.ix, hf⟩

theorem flagIndex_of_lowest {s : State} {p : Fin 12} (hf : s.eu.flags.getLsbD p.val = true)
    (he : s.eu.enables.getLsbD p.val = true)
    (hlow : ∀ q : Fin 12, q < p → s.eu.flags.getLsbD q.val = false ∨ s.eu.enables.getLsbD q.val = false) :
    s.flagIndex = p.val + 1 := by
  have hfind : ((List.finRange 12).find? fun p => (s.eu.flags &&& s.eu.enables).getLsbD p.val) = some p := by
    rw [find_finRange_eq_some]
    refine ⟨by rw [BitVec.getLsbD_and, hf, he]; rfl, fun q hq => ?_⟩
    rw [BitVec.getLsbD_and]
    rcases hlow q hq with h | h <;> simp only [h, Bool.false_and, Bool.and_false]
  simp only [State.flagIndex, hfind]

theorem flagIndex_of_none {s : State}
    (hno : ∀ q : Fin 12, s.eu.flags.getLsbD q.val = false ∨ s.eu.enables.getLsbD q.val = false) :
    s.flagIndex = 0 := by
  have hfind : ((List.finRange 12).find? fun p => (s.eu.flags &&& s.eu.enables).getLsbD p.val) = none := by
    rw [find_finRange_eq_none]
    intro q
    rw [BitVec.getLsbD_and]
    rcases hno q with h | h <;> simp only [h, Bool.false_and, Bool.and_false]
  simp only [State.flagIndex, hfind]

theorem takeDetailRead_of_lt {b : Byte} (h : 5 < b.toNat) (s : State) :
    takeDetailRead b s = .refuse s .range := by
  unfold takeDetailRead
  split <;> first | omega | rfl

theorem exec_detailRead_of_ok {s t : State} {b : Byte} {data : List Byte} (h : s.ready (.detailRead b))
    (ht : takeDetailRead b s = .ok t data) : exec (.detailRead b) s = .next (t.reply .ok data) :=
  congrArg Host.Outcome.next (hostCommand_of_ok h ht)

/-- Settles O30: FLAGS READ and ENABLE WRITE; INT; INDEX READ where a flag is set and enabled and where none is; and
DETAIL READ by its selector. -/
theorem eventUnitCommandsReportAndClear : Obligations.EventUnitCommandsReportAndClear := by
  refine ⟨⟨fun s h => ⟨s.clearHeldFlags, ?flags, rfl, ?ready, fun f hf => ?others⟩, fun s e h he => ?refused,
    fun s e h he => ?enables, intLow_iff⟩,
    ⟨fun s p h hf he hlow => ?index, fun s h hno => ?noIndex, fun s h => exec_detailRead_of_ok h rfl,
      fun s h => exec_detailRead_of_ok h rfl, fun s h => exec_detailRead_of_ok h rfl,
      fun s h => exec_detailRead_of_ok h rfl, fun s h => ?notices, fun s h => ?matchSet, fun s b h hb => ?selector⟩⟩
  case flags =>
    rw [← be_two, ← be_two]
    exact congrArg Host.Outcome.next (hostCommand_of_ok h rfl)
  case ready => simp only [flag_clearHeldFlags, decide_true, Bool.and_true]
  case others => simp only [flag_clearHeldFlags, hf, decide_false, Bool.and_false]
  case refused => exact congrArg Host.Outcome.next (hostCommand_of_refuse h (if_pos he))
  case enables =>
    rw [extractLsb'_zero_eq, ← be_two]
    exact congrArg Host.Outcome.next (hostCommand_of_ok h (if_neg (Nat.not_lt.mpr he)))
  case index =>
    rw [← flagIndex_of_lowest hf he hlow]
    exact congrArg Host.Outcome.next (hostCommand_of_ok h rfl)
  case noIndex =>
    refine congrArg Host.Outcome.next ((hostCommand_of_ok h rfl).trans ?_)
    rw [flagIndex_of_none hno]
    rfl
  case notices =>
    rw [← be_three]
    exact exec_detailRead_of_ok h rfl
  case matchSet =>
    rw [← be_two]
    exact exec_detailRead_of_ok h rfl
  case selector => exact congrArg Host.Outcome.next (hostCommand_of_refuse h (takeDetailRead_of_lt hb s))

/-! ## Verdicts (R113, R114) -/

theorem holderOf_eq_none {s : State} {states : List OblState} {tag : CallTag} :
    s.holderOf states tag = none ↔ ∀ o, (s.obl o).state ∈ states → (s.obl o).tag ≠ tag := by
  simp [State.holderOf]

theorem holderOf_eq_some {s : State} {states : List OblState} {tag : CallTag} {o : Fin 8} :
    s.holderOf states tag = some o ↔ ((s.obl o).state ∈ states ∧ (s.obl o).tag = tag)
      ∧ ∀ p, p < o → ¬ ((s.obl p).state ∈ states ∧ (s.obl p).tag = tag) := by
  simp [State.holderOf, find_finRange_eq_some]

theorem lowestFreeObl_eq_some {s : State} {o : Fin 8} : s.lowestFreeObl = some o ↔
    (s.obl o).state = .free ∧ ∀ p, p < o → (s.obl p).state ≠ .free := by
  simp [State.lowestFreeObl, find_finRange_eq_some]

theorem lowestFreeObl_eq_none {s : State} : s.lowestFreeObl = none ↔ ∀ o, (s.obl o).state ≠ .free := by
  simp [State.lowestFreeObl]

/-- A WITHDRAWN entry of the tag is freed, and any other is left as it was (R114). -/
theorem obl_supersede {s : State} {tag : CallTag} (p : Fin 8) : (s.supersede tag).obl p = s.obl p
    ∨ (s.supersede tag).obl p = Obligation.free := by
  unfold State.supersede
  split
  · rename_i o _
    show (s.setObl o Obligation.free).obl p = _ ∨ (s.setObl o Obligation.free).obl p = _
    rw [State.obl_setObl]
    split
    · exact .inr rfl
    · exact .inl rfl
  · exact .inl rfl

/-- After it no WITHDRAWN entry holds the tag, where at most one entry in use did. -/
theorem supersede_frees {s : State} {tag : CallTag} (hone : ∀ o p, (s.obl o).state ≠ .free →
    (s.obl p).state ≠ .free → (s.obl o).tag = (s.obl p).tag → o = p) {p : Fin 8}
    (hp : (s.obl p).state = .withdrawn) (ht : (s.obl p).tag = tag) :
    (s.supersede tag).obl p = Obligation.free := by
  unfold State.supersede
  split
  · rename_i o ho
    obtain ⟨⟨hs, hot⟩, -⟩ := holderOf_eq_some.mp ho
    have hos : (s.obl o).state = .withdrawn := by simpa using hs
    have hop : o = p := hone o p (by rw [hos]; decide) (by rw [hp]; decide) (hot.trans ht.symm)
    show (s.setObl o Obligation.free).obl p = _
    rw [hop, State.obl_setObl_self]
  · rename_i hno
    exact absurd ht (holderOf_eq_none.mp hno p (by simp [hp]))

/-- Settles O53: a verdict that reserves takes a tag that no entry in use still holds; the others change no entry. -/
theorem verdictsKeepTagsUnique : Obligations.VerdictsKeepTagsUnique := by
  intro s tag topic f hres hone
  show ∀ o p, ((s.takeVerdict tag topic f).1.obl o).state ≠ .free → _
  unfold State.takeVerdict
  split
  · exact hone
  · rename_i hno
    split
    · rename_i r _
      have hother {p : Fin 8} (hp : p ≠ r) : (((s.supersede tag).reserveObl r tag topic f).obl p).state ≠ .free →
          (((s.supersede tag).reserveObl r tag topic f).obl p) = s.obl p ∧ (s.obl p).tag ≠ tag := by
        rw [State.reserveObl, State.obl_setObl, if_neg hp]
        intro hfree
        have hsame : (s.supersede tag).obl p = s.obl p :=
          (obl_supersede p).resolve_right fun h => hfree (by rw [h]; rfl)
        refine ⟨hsame, fun ht => ?_⟩
        rw [hsame] at hfree
        cases hstate : (s.obl p).state with
        | free => exact hfree hstate
        | reserved => exact hres p hstate
        | opened => exact holderOf_eq_none.mp hno p (by simp [hstate]) ht
        | finishing => exact holderOf_eq_none.mp hno p (by simp [hstate]) ht
        | failed => exact holderOf_eq_none.mp hno p (by simp [hstate]) ht
        | withdrawn =>
          rw [supersede_frees hone hstate ht] at hsame
          rw [← hsame] at hfree
          exact hfree rfl
      have htag : (((s.supersede tag).reserveObl r tag topic f).obl r).tag = tag := by
        rw [State.reserveObl, State.obl_setObl_self]
      intro o p ho hp hop
      by_cases hor : o = r
      · by_cases hpr : p = r
        · rw [hor, hpr]
        · obtain ⟨hsame, hne⟩ := hother hpr hp
          rw [hor, htag, hsame] at hop
          exact absurd hop.symm hne
      · obtain ⟨hsame, hne⟩ := hother hor ho
        by_cases hpr : p = r
        · rw [hpr, htag, hsame] at hop
          exact absurd hop hne
        · obtain ⟨hsame', -⟩ := hother hpr hp
          rw [hsame] at ho hop
          rw [hsame'] at hp hop
          exact hone o p ho hp hop
    · exact hone

end Sys2Proof.Machine
end

section
/-! SUPPORT. The Reaction Engine (R132 to R155): which entries an occurrence reaches, what a firing leaves, the
passes of a taking, and each action. -/

namespace Sys2Proof.Machine

/-! ## Which entries an occurrence reaches (R132, R133) -/

theorem triggeredBy_iff (d : ReactionDef) (o : Occurrence) : d.triggeredBy o = true ↔ d.trigger = o.kind
    ∧ (∀ n, o.selector = some n → d.selector.toNat = n) ∧ o.admittedBy d.qualifier = true := by
  unfold ReactionDef.triggeredBy
  cases o.selector with
  | none => simp
  | some n => simp [and_assoc]

theorem reached_iff (s : State) (r : Fin 24) (o : Occurrence) : s.reached r o = true ↔
    (s.reaction r).trigger = o.kind ∧ (∀ n, o.selector = some n → (s.reaction r).selector.toNat = n)
      ∧ o.admittedBy (s.reaction r).qualifier = true ∧ (s.run r).arm = .armed
      ∧ s.gateOpen (s.reaction r) = true := by
  simp only [State.reached, Bool.and_eq_true, triggeredBy_iff, beq_iff_eq, and_assoc]

/-- A byte has a value below 256 exactly where it is that value's byte. -/
theorem byte_eq_iff (q : Byte) (n : Nat) (hn : n < 256) : q = BitVec.ofNat 8 n ↔ q.toNat = n :=
  ⟨fun h => by rw [h, BitVec.toNat_ofNat, Nat.mod_eq_of_lt hn], eq_of_toNat⟩

section
variable (q : Byte)

/-- The values that a qualifier is read for (R187). -/
theorem qualifier_iff : (q = 0 ↔ q.toNat = 0) ∧ (q = 1 ↔ q.toNat = 1) ∧ (q = 2 ↔ q.toNat = 2) :=
  ⟨byte_eq_iff q 0 (by decide), byte_eq_iff q 1 (by decide), byte_eq_iff q 2 (by decide)⟩

theorem admittedBy_inputEdge (k : Fin 8) :
    ((Occurrence.inputEdge k .rise).admittedBy q = true ↔ q = 0 ∨ q = 2)
      ∧ ((Occurrence.inputEdge k .fall).admittedBy q = true ↔ q = 1 ∨ q = 2) := by
  obtain ⟨h0, h1, h2⟩ := qualifier_iff q
  rw [h0, h1, h2]
  constructor <;> unfold Occurrence.admittedBy <;> split <;> simp_all

theorem admittedBy_trainDone (g : Fin 2) :
    ((Occurrence.trainDone g .complete).admittedBy q = true ↔ q = 0 ∨ q = 2)
      ∧ ((Occurrence.trainDone g .stopped).admittedBy q = true ↔ q = 1 ∨ q = 2) := by
  obtain ⟨h0, h1, h2⟩ := qualifier_iff q
  rw [h0, h1, h2]
  constructor <;> unfold Occurrence.admittedBy <;> split <;> simp_all

theorem admittedBy_slotDone (i : Fin 8) (d : DoneState) : (Occurrence.slotDone i d).admittedBy q = true ↔
    (q = 0 ∧ d = .sent) ∨ (q = 1 ∧ d ≠ .sent) ∨ q = 2 := by
  obtain ⟨h0, h1, h2⟩ := qualifier_iff q
  rw [h0, h1, h2]
  cases d <;> unfold Occurrence.admittedBy <;> split <;> simp_all

theorem admittedBy_callSettled (k : Fin 8) (x : CallOutcome) :
    (Occurrence.callSettled k x).admittedBy q = true ↔ (q = 0 ∧ x = .allDone) ∨ (q = 1 ∧ x ≠ .allDone) ∨ q = 2 := by
  obtain ⟨h0, h1, h2⟩ := qualifier_iff q
  rw [h0, h1, h2]
  cases x <;> unfold Occurrence.admittedBy <;> split <;> simp_all

/-- An occurrence without an edge or outcome is admitted whatever the qualifier holds. -/
theorem admittedBy_of_kind {o : Occurrence} (h1 : o.kind ≠ .inputEdge) (h2 : o.kind ≠ .trainDone)
    (h3 : o.kind ≠ .slotDone) (h4 : o.kind ≠ .callSettled) : o.admittedBy q = true := by
  cases o
  case inputEdge => exact absurd rfl h1
  case trainDone => exact absurd rfl h2
  case slotDone => exact absurd rfl h3
  case callSettled => exact absurd rfl h4
  all_goals rfl

end

/-- Settles O24: the conditions of R139, the gate by its kind, and the qualifier by the kind of occurrence. -/
theorem triggersAndGatesSelectTheEntries : Obligations.TriggersAndGatesSelectTheEntries := by
  refine ⟨reached_iff, fun s d h => ?ungated, fun s d k hk => ⟨fun h => ?high, fun h => ?low⟩,
    fun k q => admittedBy_inputEdge q k, fun g q => admittedBy_trainDone q g,
    fun i d q => admittedBy_slotDone q i d, fun k x q => admittedBy_callSettled q k x,
    fun o q => admittedBy_of_kind q⟩
  case ungated => simp only [State.gateOpen, h]
  case high => simp only [State.gateOpen, h, ix_of_val _ k hk]
  case low => simp only [State.gateOpen, h, ix_of_val _ k hk]

/-! ## Firings (R140 to R142, R153) -/

theorem fired_eq (x : ReactionRun) (budget : Nat) (now : Stamp) (result : ActionResult) :
    x.fired budget now result =
      { arm := if budget ≠ 0 ∧ x.remaining - 1 = 0 then .spent else x.arm
        remaining := if budget = 0 then x.remaining else x.remaining - 1
        fireCount := min (x.fireCount + 1) 65535
        firedAt := now
        lastResult := some result
        lastNotice := x.lastNotice } := by
  unfold ReactionRun.fired
  by_cases h : budget = 0 <;> simp [h]

/-- A firing whose action is done is the action and the count. -/
theorem fire_of_done {s : State} {r : Fin 24} (h : (s.perform r).result = .done) : (s.fire r).state
    = (s.perform r).state.setRun r
      (((s.perform r).state.run r).fired (s.reaction r).budget s.now (s.perform r).result) := by
  simp only [State.fire, h, State.noteRefusal]

/-- A firing whose action is refused records the refusal under its own definition and at its own time. -/
theorem fire_of_refused {s : State} {r : Fin 24} {why : RefusalReason}
    (h : (s.perform r).result = .refused why) : (s.fire r).state
      = State.setFlag { ((s.perform r).state.setRun r
          (((s.perform r).state.run r).fired (s.reaction r).budget s.now (s.perform r).result)) with
        re := { ((s.perform r).state.setRun r
          (((s.perform r).state.run r).fired (s.reaction r).budget s.now (s.perform r).result)).re with
          refusal := some { reaction := r, action := (s.reaction r).action, reason := why, stamp := s.now } } }
        .reactLimit := by
  have hsame := same_perform s r
  have hd : (s.perform r).state.reaction r = s.reaction r := by
    simp only [State.reaction, hsame.definitions]
  have hn : (s.perform r).state.now = s.now := hsame.time.1
  simp only [State.fire, h, State.noteRefusal, State.reaction_setRun, State.now_setRun, hd, hn]

/-- Settles O23: a firing by its action's result; REACT FORCE in CONFIG, on an entry that is not ARMED, and on one
that is. -/
theorem firingsCountSpendAndReport : Obligations.FiringsCountSpendAndReport := by
  refine ⟨fun s r => ⟨rfl, rfl, fun h => ?done, fun why h => ?refused⟩, fun s b r h hb =>
    ⟨fun hno => ?state, fun hs ha => ?forced⟩⟩
  case done => rw [fire_of_done h, fired_eq]
  case refused => rw [fire_of_refused h, fired_eq]
  case state =>
    refine congrArg Host.Outcome.next (hostCommand_of_refuse h ((indexed_of_val b r hb _ s).trans ?_))
    by_cases hs : s.lc.state = .config
    · exact afterJoin_of_config hs _
    · have ha := hno.resolve_left hs
      rw [afterJoin_of_ne_config hs]
      unfold takeReactForce
      split <;> first | contradiction | rfl
  case forced =>
    refine congrArg Host.Outcome.next ((hostCommand_indexed_afterJoin_of_ok h hb hs (body := takeReactForce)
      (t := (s.fire r).state.takeForced r ((s.fire r).follow r))
      (data := resultBytes (some (s.fire r).result)) ?_).trans ?_)
    · simp only [takeReactForce, ha]
    · refine congrArg (State.reply ((s.fire r).state.takeForced r ((s.fire r).follow r)) .ok) ?_
      cases (s.fire r).result <;> rfl

end Sys2Proof.Machine
end

section
/-! SUPPORT. Passes and chains (R137 to R145): a pass turn by turn, the pass at depth 5, and what a taking leaves. -/

namespace Sys2Proof.Machine

/-! ## A pass, turn by turn (R138, R139) -/

/-- A pass of `o` after `n` turns: the state, and the follow-on list so far. -/
def passAt (o : Occurrence) (s : State) (n : Nat) : State × List Occurrence :=
  ((List.finRange 24).take n).foldl (firingTurn o) (s, [])

theorem passAt_succ (o : Occurrence) (s : State) (r : Fin 24) :
    passAt o s (r.val + 1) = firingTurn o (passAt o s r.val) r := by
  have hr : r.val < (List.finRange 24).length := by simp
  rw [passAt, List.take_succ_eq_append_getElem hr, List.foldl_append, List.getElem_finRange]
  rfl

theorem passAt_all (o : Occurrence) (s : State) :
    passAt o s 24 = (List.finRange 24).foldl (firingTurn o) (s, []) := by
  rw [passAt, List.take_of_length_le (by simp)]

theorem firingTurn_of_reached {o : Occurrence} {p : State × List Occurrence} {r : Fin 24}
    (h : p.1.reached r o = true) : firingTurn o p r = ((p.1.fire r).state, p.2 ++ (p.1.fire r).follow r) := if_pos h

theorem firingTurn_of_not_reached {o : Occurrence} {p : State × List Occurrence} {r : Fin 24}
    (h : p.1.reached r o = false) : firingTurn o p r = p := if_neg (by simp [h])

/-! ## The pass at depth 5 (R145) -/

/-- Setting a flag again changes nothing. -/
theorem withBit_withBit {n : Nat} (v : BitVec n) (i : Nat) : withBit (withBit v i) i = withBit v i := by
  simp [withBit, BitVec.or_assoc]

/-- Of two suppressions in a row the later one stands in the record. -/
theorem suppress_suppress (s : State) (q r : Fin 24) (o : Occurrence) (root : Root) :
    (s.suppress q o root).suppress r o root = s.suppress r o root := by
  simp only [State.suppress, State.setFlag, withBit_withBit, State.now]

/-- A suppression changes nothing that a trigger, a gate or an arm state reads. -/
theorem reached_suppress (s : State) (q r : Fin 24) (o x : Occurrence) (root : Root) :
    (s.suppress q o root).reached r x = s.reached r x := rfl

/-- At depth 5 a pass leaves the state as it was, or with one suppression noted. -/
theorem suppressedPass_cases (root : Root) (o : Occurrence) (s : State) (l : List (Fin 24)) :
    l.foldl (suppressedTurn root o) s = s ∨ ∃ q, l.foldl (suppressedTurn root o) s = s.suppress q o root := by
  induction l using List.reverseRecOn with
  | nil => exact .inl rfl
  | append_singleton l r ih =>
    rw [List.foldl_append, List.foldl_cons, List.foldl_nil]
    rcases ih with ih | ⟨q, ih⟩
    · rw [ih, suppressedTurn]
      split
      · exact .inr ⟨r, rfl⟩
      · exact .inl rfl
    · rw [ih, suppressedTurn]
      split
      · exact .inr ⟨r, suppress_suppress s q r o root⟩
      · exact .inr ⟨q, rfl⟩

/-- Entries that the occurrence does not reach leave the record as it stands. -/
theorem suppressedPass_of_not_reached (root : Root) (o : Occurrence) (l : List (Fin 24)) (s : State)
    (h : ∀ q ∈ l, s.reached q o = false) : l.foldl (suppressedTurn root o) s = s := by
  induction l with
  | nil => rfl
  | cons a l ih =>
    have ha : suppressedTurn root o s a = s := if_neg (by simp [h a List.mem_cons_self])
    rw [List.foldl_cons, ha]
    exact ih fun q hq => h q (List.mem_cons_of_mem a hq)

/-- At depth 5 the record names the reached entry of the highest index. -/
theorem taking_zero_of_highest {root : Root} {o : Occurrence} {s : State} {r : Fin 24}
    (hr : s.reached r o = true) (hhigh : ∀ q, r < q → s.reached q o = false) :
    taking 0 root o s = s.suppress r o root := by
  have hlen : r.val < (List.finRange 24).length := by simp
  have hsplit : List.finRange 24
      = (List.finRange 24).take r.val ++ r :: (List.finRange 24).drop (r.val + 1) := by
    conv_lhs => rw [← List.take_append_drop r.val (List.finRange 24), List.drop_eq_getElem_cons hlen]
    rw [List.getElem_finRange]
    rfl
  have hdrop : ∀ q ∈ (List.finRange 24).drop (r.val + 1), s.reached q o = false := by
    intro q hq
    obtain ⟨i, hi, rfl⟩ := List.mem_iff_getElem.mp hq
    rw [List.getElem_drop, List.getElem_finRange]
    exact hhigh _ (by rw [Fin.lt_def]; show r.val < r.val + 1 + i; omega)
  have hturn : suppressedTurn root o (((List.finRange 24).take r.val).foldl (suppressedTurn root o) s) r
      = s.suppress r o root := by
    rcases suppressedPass_cases root o s ((List.finRange 24).take r.val) with h | ⟨q, h⟩
    · rw [h]
      exact if_pos hr
    · rw [h]
      exact (if_pos hr).trans (suppress_suppress s q r o root)
  rw [taking, hsplit, List.foldl_append, List.foldl_cons, hturn]
  exact suppressedPass_of_not_reached root o _ _ hdrop

/-! ## Takings (R137, R143) -/

/-- A pass that reaches no entry fires nothing. -/
theorem firingPass_of_not_reached {o : Occurrence} {s : State} (h : ∀ r, s.reached r o = false)
    (l : List (Fin 24)) : l.foldl (firingTurn o) (s, []) = (s, []) := by
  induction l with
  | nil => rfl
  | cons r l ih => rw [List.foldl_cons, firingTurn_of_not_reached (p := (s, [])) (h r), ih]

theorem taking_of_not_reached (n : Nat) (root : Root) {o : Occurrence} {s : State}
    (h : ∀ r, s.reached r o = false) : taking n root o s = s := by
  cases n with
  | zero =>
    rw [taking]
    exact suppressedPass_of_not_reached root o _ s fun q _ => h q
  | succ n =>
    rw [taking, firingPass_of_not_reached h]
    rfl

theorem same_take (s : State) (o : Occurrence) : s.SameBesidesActions (s.take o) :=
  take_keeps (P := fun t => s.SameBesidesActions t) (fun t r h => h.trans (same_fire t r))
    (fun t r o root h => h.trans (same_suppress t r o root)) o s (.refl s)

/-- Settles O26: a pass turn by turn; the pass at depth 5; occurrences that reach nothing, and CONFIG; and what no
action can change. -/
theorem takingsReachOnlyWhatActionsName : Obligations.TakingsReachOnlyWhatActionsName := by
  refine ⟨⟨fun o s h => if_neg h, fun n root o s => ⟨fun n => (passAt o s n).1, fun n => (passAt o s n).2, rfl, rfl,
      fun r h => ?reached, fun r h => ?passed, ?chain⟩⟩,
    ⟨fun root o s r hr hhigh => taking_zero_of_highest hr hhigh, fun n root o s h => taking_of_not_reached n root h,
      fun o s h => take_config s o h⟩, same_take⟩
  case reached =>
    dsimp only
    rw [passAt_succ, firingTurn_of_reached h, List.append_assoc]
    exact ⟨rfl, rfl⟩
  case passed =>
    dsimp only
    rw [passAt_succ, firingTurn_of_not_reached h]
    exact ⟨rfl, rfl⟩
  case chain =>
    dsimp only
    rw [taking, passAt_all]

end Sys2Proof.Machine
end

section
/-! SUPPORT. The fourteen actions (R134, R146 to R150), each by the state that it finds. -/

namespace Sys2Proof.Machine

/-! ## SEND (R50, R146) -/

section
variable {s : State} {i : Fin 8}

theorem actSend_of_offline (h : s.lc.state = .offline) :
    s.actSend i = { state := s, result := .refused .linkNotJoined, raised := [] } := by
  simp only [State.actSend, h]

theorem actSend_of_empty {t : State} (h : s.follows) (ht : s.requestSlot i = (t, .empty)) :
    s.actSend i = { state := t, result := .refused .slotEmpty, raised := [] } := by
  rcases h with h | h | h <;> simp only [State.actSend, h, ht]

theorem actSend_of_full {t : State} (h : s.follows) (ht : s.requestSlot i = (t, .full)) :
    s.actSend i = { state := t, result := .refused .noCallEntry, raised := [] } := by
  rcases h with h | h | h <;> simp only [State.actSend, h, ht]

theorem actSend_of_done {t : State} {o : RequestResult} (h : s.follows) (ht : s.requestSlot i = (t, o))
    (he : o ≠ .empty) (hf : o ≠ .full) :
    s.actSend i = { state := t, result := .done, raised := [] } := by
  cases o with
  | empty => contradiction
  | full => contradiction
  | new => rcases h with h | h | h <;> simp only [State.actSend, h, ht]
  | alreadyPending => rcases h with h | h | h <;> simp only [State.actSend, h, ht]
  | rerun => rcases h with h | h | h <;> simp only [State.actSend, h, ht]

end

/-! ## Outputs (R148) -/

theorem actOutput_of_level {s : State} {k : Fin 8} (h : (s.output k).owner = .level) (level : Bool → Bool) :
    s.actOutput k level = { state := s.setOutput k { s.output k with level := level (s.output k).level }
                            result := .done
                            raised := [] } := by
  simp only [State.actOutput, h, State.driveOutput]

theorem actOutput_of_train {s : State} {k : Fin 8} (h : (s.output k).owner ≠ .level) (level : Bool → Bool) :
    s.actOutput k level = { state := s, result := .refused .lineOwnedByTrain, raised := [] } := by
  unfold State.actOutput
  split
  · contradiction
  · rfl

/-! ## FINISH (R121) -/

/-- The entry opened earliest is the first one of greatest age among the OPEN entries of the filter. -/
theorem oldestOpen_eq_argmax (s : State) (f : Fin 16) : s.oldestOpen f
    = ((List.finRange 8).filter fun o => (s.obl o).state == .opened && (s.obl o).filter == f).argmax s.oblAge := by
  have holder : s.older = List.argAux fun b c => s.oblAge c < s.oblAge b := by
    funext held o
    cases held <;> rfl
  rw [State.oldestOpen, holder]
  rfl

theorem mem_openOf {s : State} {f : Fin 16} {o : Fin 8} :
    o ∈ ((List.finRange 8).filter fun o => (s.obl o).state == .opened && (s.obl o).filter == f)
      ↔ (s.obl o).state = .opened ∧ (s.obl o).filter = f := by
  simp [List.mem_filter]

theorem oldestOpen_eq_none {s : State} {f : Fin 16} (h : ∀ o, (s.obl o).state = .opened → (s.obl o).filter ≠ f) :
    s.oldestOpen f = none := by
  rw [oldestOpen_eq_argmax, List.argmax_eq_none, List.eq_nil_iff_forall_not_mem]
  exact fun o ho => h o (mem_openOf.mp ho).1 (mem_openOf.mp ho).2

theorem oldestOpen_eq_some {s : State} {f : Fin 16} {o : Fin 8} (hs : (s.obl o).state = .opened)
    (hf : (s.obl o).filter = f) (hold : ∀ q, (s.obl q).state = .opened → (s.obl q).filter = f →
      s.oblAge q ≤ s.oblAge o ∧ (s.oblAge q = s.oblAge o → o ≤ q)) : s.oldestOpen f = some o := by
  rw [oldestOpen_eq_argmax]
  have hmem := mem_openOf.mpr ⟨hs, hf⟩
  refine List.mem_argmax_iff.mpr ⟨hmem, fun q hq => (hold q (mem_openOf.mp hq).1 (mem_openOf.mp hq).2).1,
    fun q hq hle => ?_⟩
  obtain ⟨hage, hlow⟩ := hold q (mem_openOf.mp hq).1 (mem_openOf.mp hq).2
  by_contra hlt
  have hp := List.pairwise_iff_getElem.mp ((List.sortedLT_finRange 8).pairwise.filter _) _ _
    (List.idxOf_lt_length_of_mem hq) (List.idxOf_lt_length_of_mem hmem) (Nat.not_le.mp hlt)
  rw [List.getElem_idxOf, List.getElem_idxOf] at hp
  exact absurd (hlow (le_antisymm hage hle)) (not_le.mpr hp)

/-! ## HOLD_PULSE (R35) -/

theorem pulseLength_eq (s : State) (w : BitVec 16) : s.pulseLength w
    = if w = 0 then s.lc.holdLength else if w.toNat ≤ 31 then 32 else w.toNat := by
  simp only [State.pulseLength, beq_iff_eq]
  split
  · rfl
  · split <;> omega

/-! ## The actions by their kinds -/

section
variable {s : State} {r : Fin 24}

theorem perform_send {i : Fin 8} (ha : (s.reaction r).action = .send)
    (ht : (s.reaction r).target.toNat = i.val) : s.perform r = s.actSend i := by
  simp only [State.perform, ha, ix_of_val _ i ht]

theorem perform_output {k : Fin 8}
    (ha : (s.reaction r).action = .outputSet ∨ (s.reaction r).action = .outputClear
      ∨ (s.reaction r).action = .outputToggle) (ht : (s.reaction r).target.toNat = k.val) :
    s.perform r = s.actOutput k fun b => match (s.reaction r).action with
      | .outputSet => true
      | .outputClear => false
      | _ => !b := by
  rcases ha with ha | ha | ha <;> simp only [State.perform, ha, ix_of_val _ k ht]

theorem perform_finish {f : Fin 16} (ha : (s.reaction r).action = .finish)
    (ht : (s.reaction r).target.toNat = f.val) :
    s.perform r = s.actFinish f ((s.reaction r).parameter.extractLsb' 0 8) := by
  simp only [State.perform, ha, ix_of_val _ f ht, lo16]

theorem perform_holdPulse (ha : (s.reaction r).action = .holdPulse) :
    s.perform r = s.actHoldPulse (s.reaction r).parameter := by simp only [State.perform, ha]

theorem perform_holdPulse_of_ne_active (ha : (s.reaction r).action = .holdPulse) (hs : s.lc.state ≠ .active) :
    s.perform r = { state := s, result := .refused .linkNotActive, raised := [] } := by
  rw [perform_holdPulse ha, State.actHoldPulse, if_neg hs]

/-- A refused action has left the entry's run state alone, so that a firing counts on it as it was. -/
theorem run_fire_of_refused_unchanged {why : RefusalReason}
    (h : s.perform r = { state := s, result := .refused why, raised := [] }) :
    (s.fire r).state.run r = (s.run r).fired (s.reaction r).budget s.now (.refused why) := by
  rw [fire_of_refused (why := why) (by rw [h]), h]
  exact State.run_setRun_self ..

end

/-- Settles O25: each action is the state change that its rule names; an action that its state refuses leaves
the state, and its firing counts all the same. -/
theorem actionsDoWhatTheirTablesSay : Obligations.ActionsDoWhatTheirTablesSay := by
  refine ⟨fun s r => ⟨fun i ha ht => ?send, fun t ha ht => ?timerStart, fun t ha ht => ?timerStop,
    fun g ha ht => ?trainStart, fun g ha ht => ?trainStop, fun k ha ht => ?output, fun c ha ht => ?counter,
    fun q ha ht => ?arm, fun q ha ht => ?disarm, fun f ha ht => ?finish, fun ha => ?notify⟩,
    fun s r ha => ⟨fun hs => ?pulse, fun hs => ?refused⟩⟩
  case send =>
    rw [perform_send ha ht]
    refine ⟨actSend_of_offline, fun hf he => actSend_of_empty hf (requestSlot_of_empty he),
      fun hf hp => actSend_of_done hf (requestSlot_of_pending hp) (by decide) (by decide),
      fun hf hs => actSend_of_done hf (requestSlot_of_sending hs) (by decide) (by decide),
      fun hf he hp hs => ⟨fun t ht => actSend_of_done hf (requestSlot_of_new he hp hs ht) (by decide) (by decide),
        fun hn => actSend_of_full hf (requestSlot_of_full he hp hs hn)⟩⟩
  case timerStart =>
    simp only [State.perform, ha, ix_of_val _ t ht, State.actTimerStart, State.startTimer, beq_iff_eq]
    split <;> simp
  case timerStop => simp only [State.perform, ha, ix_of_val _ t ht, State.stopTimer]
  case trainStart => simp only [State.perform, ha, ix_of_val _ g ht, startTrain_eq]
  case trainStop =>
    simp only [State.perform, ha, ix_of_val _ g ht]
    refine ⟨fun hr => ?_, fun hr hp => ?_, fun hr hp => ?_⟩
    · rw [stopTrain_of_idle hr]
    · rw [stopTrain_of_rest hr hp, Train.idled]
    · rw [stopTrain_of_active hr hp]
  case output =>
    rw [perform_output ha ht]
    exact ⟨fun h => actOutput_of_train h _, fun h => actOutput_of_level h _⟩
  case counter => simp only [State.perform, ha, ix_of_val _ c ht, State.clearCounter]
  case arm =>
    simp only [State.perform, ha, ix_of_val _ q ht]
    cases h : (s.run q).arm with
    | disarmed => simp only [State.armReaction_of_disarmed h]
    | spent => simp only [State.armReaction_of_spent h]
    | armed => simp only [State.armReaction_of_armed h]
  case disarm =>
    simp only [State.perform, ha, ix_of_val _ q ht]
    split
    · next h => rw [State.disarmReaction_of_armed h]
    · next h => rw [State.disarmReaction_of_ne_armed h]
  case finish =>
    rw [perform_finish ha ht]
    refine ⟨fun hn => ?_, fun o hs hf hold => ?_⟩
    · rw [State.actFinish, oldestOpen_eq_none hn]
    · rw [State.actFinish, oldestOpen_eq_some hs hf hold]; rfl
  case notify => simp only [State.perform, ha, State.actNotify, lo16, withBit]; rfl
  case pulse =>
    rw [perform_holdPulse ha, State.actHoldPulse, if_pos hs, pulseLength_eq, State.startPulse]
  case refused =>
    have hp := perform_holdPulse_of_ne_active ha hs
    rw [run_fire_of_refused_unchanged hp, fired_eq]
    exact ⟨hp, rfl, rfl⟩

end Sys2Proof.Machine
end

section
/-! SUPPORT. The rows of the line's events (log 2): SOFs, the window, the settlements, recovery, integration,
QUIET and the hold. -/

namespace Sys2Proof.Machine

/-! ## Rows that carry out what waits (logs 1 and 2) -/

/-- The first waiting event that a row names is carried out where its rule's condition permits. -/
theorem carryFirst_of_find {s : State} {p : LineEvent → Bool} {e : LineEvent} (h : s.lc.due.find? p = some e)
    (hp : s.lc.permits e = true) : s.carryFirst p = (s.setLc { s.lc with due := s.lc.due.erase e }).carryOut e := by
  simp only [State.carryFirst, h]
  exact if_pos hp

/-- An event whose rule's condition no longer holds only stops waiting. -/
theorem carryFirst_of_not_permits {s : State} {e : LineEvent} (h : e ∈ s.lc.due) (hp : s.lc.permits e = false) :
    s.carryFirst (· == e) = s.setLc { s.lc with due := s.lc.due.erase e } := by
  have hf : s.lc.due.find? (· == e) = some e := by
    cases hx : s.lc.due.find? (· == e) with
    | none => exact absurd (List.find?_eq_none.mp hx e h) (by simp)
    | some x =>
      have hxe : (x == e) = true := List.find?_some (p := (· == e)) hx
      rw [eq_of_beq hxe]
  simp only [State.carryFirst, hf, hp, Bool.false_eq_true, if_false]

theorem carryFirst_of_not_mem {s : State} {e : LineEvent} (h : e ∉ s.lc.due) : s.carryFirst (· == e) = s :=
  carryFirst_of_none s _ fun x hx => by
    rw [beq_eq_false_iff_ne]
    exact fun he => h (he ▸ hx)

/-! ## SOFs (R12, R54) -/

theorem sofReady_of_choice {s : State} {c : Choice} (hc : s.lc.choice = some c) (hd : s.lc.due = [])
    (hm : s.mayChoose = true) : s.sofReady = some c.candidate := by
  simp only [State.sofReady, hc, hd, hm, List.isEmpty_nil, Bool.and_self, if_true, Option.map_some]

theorem sofReady_of_not {s : State} (h : s.lc.choice = none ∨ s.lc.due ≠ [] ∨ s.lc.state ≠ .active
    ∨ s.lc.held = true ∨ s.lc.holdFlag = true ∨ s.lc.pulse ≠ 0 ∨ s.lc.phase ≠ .idle ∨ s.lc.inFlight ≠ none) :
    s.sofReady = none := by
  unfold State.sofReady
  split
  · next hr =>
    rw [Bool.and_eq_true, mayChoose_iff, List.isEmpty_iff] at hr
    obtain ⟨⟨hs, hh, hf, hp, hi, hn⟩, hd⟩ := hr
    have hc : s.lc.choice = none := by simpa [hd, hs, hh, hf, hp, hi, hn] using h
    rw [hc, Option.map_none]
  · rfl

theorem exec_sofDriven_of_choice {s : State} {c : Choice} (hc : s.lc.choice = some c) (hd : s.lc.due = [])
    (hm : s.mayChoose = true) : exec .sofDriven s = .next (s.driveSof c.candidate) := by
  show execSofDriven s = _
  rw [execSofDriven, sofReady_of_choice hc hd hm]

/-- Settles O31: the choice is cancelled at a peer's SOF, and at an own SOF its frame begins, built from its
owner as it then stands. -/
theorem sofsBeginFrames : Obligations.SofsBeginFrames := by
  refine ⟨fun s hd hp => ?peer, fun s c hc hd ha hh hf hpu hp hn => ?driven, fun s h => ?nothing⟩
  case peer =>
    have hpe : s.lc.permits .peerSof = true := by simp only [LinkController.permits, hp, beq_self_eq_true]
    show Host.Outcome.next _ = _
    rw [carryFirst_of_mem s .peerSof hd hpe]
    rfl
  case driven =>
    have hsof := exec_sofDriven_of_choice hc hd ((mayChoose_iff s).mpr ⟨ha, hh, hf, hpu, hp, hn⟩)
    refine ⟨fun i hx hk => ?_, fun i k g hx hk hg => ?_, fun o st bs hx ho => ?_, fun k hx => ?_⟩ <;>
      rw [hsof, hx]
    · have hb : s.candidateBits (.slot i)
          = frameBits (s.slot i).priority .cue (s.slot i).topic s.lc.station (s.slot i).payload := by
        simp only [State.candidateBits, Slot.data, hk, SlotKind.frameKind]
      rw [State.driveSof, hb, State.markSending]
      rfl
    · have hb : s.candidateBits (.slot i) = frameBits (s.slot i).priority .call (s.slot i).topic s.lc.station
          ((BitVec.ofNat 3 k.val ++ g ++ 0#2) :: (s.slot i).payload) := by
        simp only [State.candidateBits, Slot.data, hk, hg, SlotKind.frameKind, callReference]
      rw [State.driveSof, hb, State.markSending]
      rfl
    · have hb : s.candidateBits (.obligation o) = frameBits s.lc.protocolPriority .done
          ((s.obl o).tag.caller ++ (s.obl o).tag.index ++ (s.obl o).tag.generation) s.lc.station (st :: bs) := by
        simp only [State.candidateBits, Obligation.data, ho, CallTag.topic]
      rw [State.driveSof, hb, State.markSending]
    · rfl
  case nothing =>
    show execSofDriven s = _
    rw [execSofDriven, sofReady_of_not h]

/-! ## The window and receivers' errors (R20, R115 to R117) -/

theorem stat_setFlag (s : State) (f : Flag) (c : Stat) : (s.setFlag f).stat c = s.stat c := rfl

theorem flag_countStat (s : State) (c : Stat) (f : Flag) :
    (s.countStat c).flag f = (s.flag f || decide (Flag.busError = f)) := by
  rw [State.countStat_eq, flag_setFlag]
  rfl

/-- A release changes the obligation entries alone. -/
theorem releaseVerdict_frame (s : State) :
    s.releaseVerdict = { s with ou := { s.ou with entries := s.releaseVerdict.ou.entries } } := by
  rcases State.releaseVerdict_eq (s := s) with h | ⟨o, _, h⟩ <;> rw [h]
  rfl

/-- The entry that the verdict newly reserved is free again; every other stands. -/
theorem obl_releaseVerdict (s : State) (o : Fin 8) : s.releaseVerdict.obl o
    = if (∃ b, s.ou.verdict = some { answer := .reserved o, placed := b }) ∧ (s.obl o).state = .reserved
      then Obligation.free else s.obl o := by
  rcases hv : s.ou.verdict with _ | ⟨answer, placed⟩
  · simp [State.releaseVerdict, hv]
  · cases answer with
    | reserved q =>
      simp only [State.releaseVerdict, hv, Option.some.injEq, Verdict.mk.injEq, Answer.reserved.injEq]
      by_cases hq : o = q
      · subst hq
        split
        · next hr => rw [State.obl_setObl_self, if_pos ⟨⟨placed, rfl, rfl⟩, hr⟩]
        · next hr => rw [if_neg fun hx => hr hx.2]
      · have hne : ¬ ((∃ b, q = o ∧ placed = b) ∧ (s.obl o).state = .reserved) :=
          fun ⟨⟨_, hx, _⟩, _⟩ => hq hx.symm
        rw [if_neg hne]
        split
        · rw [State.obl_setObl, if_neg hq]
        · rfl
    | _ => simp [State.releaseVerdict, hv]

/-- The counter of a receiver's code (R41). -/
def RxCode.counter : RxCode → Stat
  | .check => .rxCheck
  | .stuff => .rxStuff
  | .form => .rxForm

theorem countReceive_eq (s : State) (c : RxCode) : s.countReceive c = s.countStat c.counter := by
  cases c <;> rfl

/-- Settles O33: PLACED notes the placement, CROWDED and RECEIVE_ERROR release a new reservation alone. -/
theorem windowEventsAndReceiveErrors : Obligations.WindowEventsAndReceiveErrors := by
  refine ⟨fun s v hd hp hv => ?placed, fun s hd hp => ?crowded, fun s c hf hp => ?error⟩
  case placed =>
    have hpe : s.lc.permits .placed = true := by simp only [LinkController.permits, hp, beq_self_eq_true]
    show Host.Outcome.next _ = _
    rw [carryFirst_of_mem s .placed hd hpe, State.carryOut, State.notePlaced, State.setVerdict, State.setVerdict]
    simp only [State.setLc, hv, Option.map_some]
  case crowded =>
    have hpe : s.lc.permits .crowded = true := by simp only [LinkController.permits, hp, beq_self_eq_true]
    refine ⟨_, rfl, ?_⟩
    rw [carryFirst_of_mem s .crowded hd hpe, State.carryOut, State.noteCrowded]
    refine ⟨?_, ?_, fun c hc => ?_, ?_, ?_, fun f hn hb => ?_, ?_, ?_, fun o => ?_, ?_⟩
    · rw [releaseVerdict_frame]; rfl
    · rw [stat_setFlag, stat_countStat, if_pos rfl, releaseVerdict_frame]; rfl
    · rw [stat_setFlag, stat_countStat, if_neg hc, releaseVerdict_frame]; rfl
    · rw [flag_setFlag, decide_eq_true rfl, Bool.or_true]
    · rw [flag_setFlag, flag_countStat, releaseVerdict_frame]; simp
    · rw [flag_setFlag, flag_countStat, releaseVerdict_frame]; simp [hn.symm, hb.symm]; rfl
    · rw [releaseVerdict_frame]; rfl
    · rw [releaseVerdict_frame]; rfl
    · exact obl_releaseVerdict _ o
    · rw [releaseVerdict_frame]; rfl
  case error =>
    have hpe : s.lc.permits (.receiveError c) = true := by
      simp only [LinkController.permits, hp, beq_self_eq_true]
    refine ⟨_, rfl, ?_⟩
    rw [carryFirst_of_find hf hpe, State.carryOut, State.settleReceive, countReceive_eq, State.breakVerdict]
    generalize hw : (s.setLc { s.lc with due := s.lc.due.erase (.receiveError c) }).countStat c.counter = w
    have hlc : w.lc = { s.lc with due := s.lc.due.erase (.receiveError c), stats := w.lc.stats } := by
      rw [← hw]; rfl
    have hou : w.ou = s.ou := by rw [← hw]; rfl
    have hw' : w = { s with lc := w.lc, eu := { s.eu with flags := w.eu.flags } } := by rw [← hw]; rfl
    have hstat (x : Stat) : w.stat x = if x = c.counter then min (s.stat c.counter + 1) 255 else s.stat x := by
      rw [← hw, stat_countStat]; rfl
    have hflag (f : Flag) : w.flag f = (s.flag f || decide (Flag.busError = f)) := by
      rw [← hw, flag_countStat]; rfl
    have hr : w.releaseVerdict.lc = w.lc := by rw [releaseVerdict_frame]
    refine ⟨?_, ⟨?_, fun x hx => ?_⟩, ?_, fun f hf => ?_, ?_, rfl, fun o => ?_, ?_⟩
    · simp only [State.setLc_lc, State.setVerdict, hr]
      rw [hlc]
    · exact (congrArg (fun lc : LinkController => lc.stats[c.counter.ix]) hr).trans
        ((hstat c.counter).trans (if_pos rfl))
    · exact (congrArg (fun lc : LinkController => lc.stats[x.ix]) hr).trans ((hstat x).trans (if_neg hx))
    · rw [releaseVerdict_frame]
      exact (hflag .busError).trans (by simp)
    · rw [releaseVerdict_frame]
      exact (hflag f).trans (by simp [hf.symm])
    · rw [releaseVerdict_frame, hw']
      rfl
    · refine (obl_releaseVerdict w o).trans ?_
      simp only [State.obl, hou]
      rfl
    · rw [releaseVerdict_frame, hw']
      rfl

/-! ## Settled attempts (R37, R38, R66) -/

theorem handInFlight_of_some {s : State} {x : Candidate} (h : s.lc.inFlight = some x) (c : TxCode)
    (l : List Byte) : s.handInFlight c l = s.handOutcome x c l := by simp only [State.handInFlight, h]

theorem settleAttempt_of_inFlight {s : State} {x : Candidate} (c : TxCode) (h : s.lc.inFlight = some x) :
    s.settleAttempt c = ((((s.handOutcome x c s.responseList).1.countAttempt c).afterAttempt c).settleTasks
      (separately (s.handOutcome x c s.responseList).2 ++ [[.choose]])).ripen := by
  simp only [State.settleAttempt, handInFlight_of_some h]

theorem handInFlight_of_none {s : State} (h : s.lc.inFlight = none) (c : TxCode) (l : List Byte) :
    s.handInFlight c l = (s, []) := by simp only [State.handInFlight, h]

theorem handInFlight_handed (s : State) (c : TxCode) (l : List Byte) :
    (s.handInFlight c l).1.re = s.re ∧ (s.handInFlight c l).2.length ≤ 2 := by
  cases h : s.lc.inFlight with
  | none => rw [handInFlight_of_none h]; exact ⟨rfl, Nat.zero_le 2⟩
  | some x => rw [handInFlight_of_some h]; exact handOutcome_handed s x c l

theorem countAttempt_re (s : State) (c : TxCode) : (s.countAttempt c).re = s.re := by cases c <;> rfl

theorem afterAttempt_re (s : State) (c : TxCode) : (s.afterAttempt c).re = s.re := by
  cases c <;> simp only [State.afterAttempt] <;> (try split) <;> rfl

/-- Settles O37: the owner has the code, the counters move, and what the owner hands on goes before the
arbiter's choice. -/
theorem settledCodesReachOwnerAndCounts : Obligations.SettledCodesReachOwnerAndCounts := by
  refine ⟨fun s c x hf hx => ?settled, fun s => ⟨rfl, rfl⟩, fun s => ⟨rfl, rfl, rfl, rfl⟩,
    fun s c d => ⟨stat_countStat s c d, ?flag⟩, fun s => rfl, fun s => ⟨rfl, rfl⟩,
    fun s c hc hn => ?below, fun s c hc hn => ?limit⟩
  case settled =>
    have hpe : s.lc.permits (.attemptSettled c) = true := by
      simp only [LinkController.permits, hx, Option.isSome_some]
    have hrun : exec .attemptSettled s
        = .next ((s.setLc { s.lc with due := s.lc.due.erase (.attemptSettled c) }).settleAttempt c) :=
      congrArg Host.Outcome.next (carryFirst_of_find hf hpe)
    have hfl : (s.setLc { s.lc with due := s.lc.due.erase (.attemptSettled c) }).lc.inFlight = some x := hx
    rw [hrun, settleAttempt_of_inFlight c hfl]
    refine ⟨rfl, fun hu => ?_⟩
    obtain ⟨hre, hlen⟩ := handOutcome_handed
      (s.setLc { s.lc with due := s.lc.due.erase (.attemptSettled c) }) x c
      (s.setLc { s.lc with due := s.lc.due.erase (.attemptSettled c) }).responseList
    rw [settleTasks_handed _ (unbound_of_re hu ((afterAttempt_re _ _).trans ((countAttempt_re _ _).trans hre)))
      _ hlen]
    rfl
  case flag => rw [flag_countStat, decide_eq_true rfl, Bool.or_true]
  case below =>
    rcases hc with rfl | rfl | rfl <;> exact if_pos (show s.lc.failures < Config.failureLimit from hn)
  case limit =>
    have hlim : ¬ s.lc.failures < Config.failureLimit := Nat.not_lt.mpr hn
    rcases hc with rfl | rfl | rfl <;> exact if_neg hlim

/-! ## Recovery, integration and QUIET (R22, R26, R40) -/

/-- Settles O39: recovery and integration end on an idle bus with a choice, and QUIET ends in INTEGRATING, where
of what waits the events of the hold stand. -/
theorem recoveryIntegrationAndQuietEnd : Obligations.RecoveryIntegrationAndQuietEnd := by
  refine ⟨fun s hd hp => ?recovery, fun s hd hs hp => ?integration, fun s hd hs => ?quiet⟩
  case recovery =>
    have hpe : s.lc.permits .recoveryGap = true := by simp only [LinkController.permits, hp, beq_self_eq_true]
    exact congrArg Host.Outcome.next (carryFirst_of_mem s .recoveryGap hd hpe)
  case integration =>
    have hpe : s.lc.permits .integration = true := by
      simp only [LinkController.permits, hs, hp, beq_self_eq_true, Bool.and_self]
    exact congrArg Host.Outcome.next (carryFirst_of_mem s .integration hd hpe)
  case quiet =>
    have hpe : s.lc.permits .quietEnds = true := by simp only [LinkController.permits, hs, beq_self_eq_true]
    have hof : LineEvent.ofHold = fun e => e == .holdDetected || e == .persistenceMark || e == .holdEnded := by
      funext e
      cases e <;> rfl
    refine (congrArg Host.Outcome.next (carryFirst_of_mem s .quietEnds hd hpe)).trans ?_
    rw [State.carryOut, State.endQuiet, hof]
    rfl

/-! ## The hold (R29 to R31, R33) -/

/-- The line held, and the frame in progress gone (R29). -/
def State.heldFrom (s : State) (awaiting : Bool) : State :=
  (s.setLc { s.lc with
    choice := none
    frame := none
    holdInAwait := awaiting
    phase := .hold
    persistence := 0
    holdEnd := 0
    held := true }).setFlag .holdNote

/-- The owner of the frame in flight has no say in the phase of the line. -/
theorem beginHold_eq (s : State) : s.beginHold
    = ((s.handInFlight .hold []).1.breakVerdict.heldFrom (s.lc.phase == .await)).settleTasks
      (separately (s.handInFlight .hold []).2 ++ [[.take .holdBegin]]) := by
  have hp : (s.handInFlight .hold []).1.breakVerdict.lc.phase = s.lc.phase := by
    rw [(ownersFrame_handInFlight s .hold []).breakVerdict.link]
    rfl
  rw [State.beginHold, hp, State.heldFrom]

/-- Where no entry is bound, nothing follows the detection of a hold. -/
theorem beginHold_of_unbound {s : State} (hu : ∀ o, s.bound o = false) : s.beginHold
    = (s.handInFlight .hold []).1.breakVerdict.heldFrom (s.lc.phase == .await) := by
  obtain ⟨hre, hlen⟩ := handInFlight_handed s .hold []
  have hb : ∀ o, ((s.handInFlight .hold []).1.breakVerdict.heldFrom (s.lc.phase == .await)).bound o = false := by
    refine unbound_of_re hu ?_
    rw [State.heldFrom, State.breakVerdict, releaseVerdict_frame]
    exact hre
  rw [beginHold_eq, settleTasks_handed _ hb _ hlen]
  exact take_of_unbound _ hb _

/-- Where no entry is bound, the choice alone follows the end of a hold. -/
theorem settleTasks_taken_choose {s : State} (hu : ∀ o, s.bound o = false) (o : Occurrence) :
    s.settleTasks [[.take o], [.choose]] = s.arbiter := settleTasks_handed s hu [o] (by simp) .choose

/-- Settles O40: the hold's events move the line, and HOLD_NOTE is set before their occurrences are taken. -/
theorem holdEventsMoveTheLine : Obligations.HoldEventsMoveTheLine := by
  refine ⟨fun s hd hp ho => ?detected, fun s hd hp => ?persists, fun s hd hp => ?ended, fun s hd hp => ?pulse⟩
  case detected =>
    have hpe : s.lc.permits .holdDetected = true := by simp [LinkController.permits, hp, ho]
    have hrun : exec .holdDetected s
        = .next (s.setLc { s.lc with due := s.lc.due.erase .holdDetected }).beginHold :=
      congrArg Host.Outcome.next (carryFirst_of_mem s .holdDetected hd hpe)
    rw [hrun]
    refine ⟨?_, fun hu => ?_⟩
    · rw [beginHold_eq]
      rfl
    · have hw : ∀ o, (s.setLc { s.lc with due := s.lc.due.erase .holdDetected }).bound o = false := hu
      rw [beginHold_of_unbound hw]
      rfl
  case persists =>
    have hpe : s.lc.permits .persistenceMark = true := by simp only [LinkController.permits, hp, beq_self_eq_true]
    refine (congrArg Host.Outcome.next (carryFirst_of_mem s .persistenceMark hd hpe)).trans ?_
    rw [State.carryOut, State.markPersistence, settleTasks_take]
  case ended =>
    have hpe : s.lc.permits .holdEnded = true := by simp only [LinkController.permits, hp, beq_self_eq_true]
    have hrun : exec .holdEnded s
        = .next (s.setLc { s.lc with due := s.lc.due.erase .holdEnded }).endHold :=
      congrArg Host.Outcome.next (carryFirst_of_mem s .holdEnded hd hpe)
    rw [hrun]
    refine ⟨rfl, fun hu => ?_⟩
    rw [State.endHold]
    refine congrArg (fun t : State => Host.Outcome.next t.ripen) (settleTasks_taken_choose ?_ .holdEnd)
    exact hu
  case pulse =>
    have hpe : s.lc.permits .pulseEnds = true := by simp [LinkController.permits, hp]
    exact congrArg Host.Outcome.next (carryFirst_of_mem s .pulseEnds hd hpe)

/-! ## Rows that are not due (log 2) -/

/-- Settles O41: a row whose event does not wait changes nothing, and one whose condition is gone only stops
waiting. -/
theorem rowsNotDueChangeNothing : Obligations.RowsNotDueChangeNothing := by
  refine ⟨fun s c e hn hrow => ?rows, fun s hn => ?attempt, fun s hn => ?receive, fun s k h => ?deadline,
    fun s t h => ?timer, fun s g h => ?leading, fun s g h => ?trailing, fun s k h => ?input,
    fun s e => carryFirst_of_not_permits⟩
  case rows =>
    have hstay := congrArg (Host.Outcome.next (φ := Fault) (ρ := Refusal)) (carryFirst_of_not_mem hn)
    simp only [List.mem_cons, Prod.mk.injEq, List.not_mem_nil, or_false] at hrow
    rcases hrow with ⟨rfl, rfl⟩ | ⟨rfl, rfl⟩ | ⟨rfl, rfl⟩ | ⟨rfl, rfl⟩ | ⟨rfl, rfl⟩ | ⟨rfl, rfl⟩ | ⟨rfl, rfl⟩
      | ⟨rfl, rfl⟩ | ⟨rfl, rfl⟩ | ⟨rfl, rfl⟩ | ⟨rfl, rfl⟩ | ⟨rfl, rfl⟩ <;> exact hstay
  case attempt =>
    refine congrArg Host.Outcome.next (carryFirst_of_none s _ fun e he => ?_)
    cases e with
    | attemptSettled c => exact absurd he (hn c)
    | _ => rfl
  case receive =>
    refine congrArg Host.Outcome.next (carryFirst_of_none s _ fun e he => ?_)
    cases e with
    | receiveError c => exact absurd he (hn c)
    | _ => rfl
  case deadline => exact congrArg Host.Outcome.next (if_neg fun hx => by simp [hx.1, hx.2] at h)
  case timer => exact congrArg Host.Outcome.next (if_neg (by simp [h]))
  case leading =>
    have hl : (s.train g).leadingDue = false := by
      rcases h with h | h | h <;> simp [Train.leadingDue, h]
    exact congrArg Host.Outcome.next (if_neg (by simp [hl]))
  case trailing =>
    have hl : (s.train g).trailingDue = false := by
      rcases h with h | h | h <;> simp [Train.trailingDue, h]
    exact congrArg Host.Outcome.next (if_neg (by simp [hl]))
  case input => exact congrArg Host.Outcome.next (if_neg (by simp [h]))

/-! ## Events of a time step (R92, R160, R169, R170) -/

/-- An event's own occurrence is all that follows it. -/
theorem settleTasks_separately_single (s : State) (o : Occurrence) :
    s.settleTasks (separately [o]) = s.take o := settleTasks_take s o

/-- Settles O43: each timed event changes its entry as its rule names, and its occurrence is taken. -/
theorem timedEventsHappenWhereDue : Obligations.TimedEventsHappenWhereDue := by
  refine ⟨fun s k he ho => ?deadline, fun s t he => ?timer, fun s g hd hr hp => ?leading,
    fun s g hd hr hp => ⟨fun hc => ?complete, fun hc hs => ?stopped, fun hc hs => ?goesOn⟩⟩
  case deadline =>
    show Host.Outcome.next (s.expireCall k) = _
    rw [State.expireCall, if_pos ⟨he, ho⟩, settleTasks_separately_single, settleCall_written]
    simp only [State.call_setCall_self, State.now_setCall, State.setCall_setCall, reduceCtorEq, if_false]
    rfl
  case timer =>
    show Host.Outcome.next (s.expireTimer t) = _
    rw [State.expireTimer, if_pos he, settleTasks_separately_single, timerExpired_eq]
  case leading =>
    show Host.Outcome.next (s.leadTrain g) = _
    have hl : (s.train g).leadingDue = true := by simp [Train.leadingDue, hd, hr, hp]
    rw [State.leadTrain, if_pos hl, settleTasks_separately_single, driveTrain_setTrain, Bool.bne_true]
  all_goals
    have hl : (s.train g).trailingDue = true := by simp [Train.trailingDue, hd, hr, hp]
    show Host.Outcome.next (s.trailTrain g) = _
    rw [State.trailTrain, if_pos hl]
  case complete =>
    have hend : (s.train g).runEnd = some .complete := if_pos hc
    rw [hend]
    simp only [settleTasks_separately_single, driveTrain_setTrain, Bool.bne_false, Train.idled]
  case stopped =>
    have hend : (s.train g).runEnd = some .stopped := (if_neg hc).trans (if_pos hs)
    rw [hend]
    simp only [settleTasks_separately_single, driveTrain_setTrain, Bool.bne_false, Train.idled]
  case goesOn =>
    have hend : (s.train g).runEnd = none := (if_neg hc).trans (if_neg (by simp [hs]))
    rw [hend]
    simp only [driveTrain_setTrain, Bool.bne_false]

end Sys2Proof.Machine
end

section
/-! SUPPORT. The end of a frame received (R11, R71, R93, R118, R124), and what holds at reset. -/

namespace Sys2Proof.Machine

/-! ## The end of a frame (R11) -/

theorem runSeries_append (s : State) (k l : List Task) : runSeries s (k ++ l) = runSeries (runSeries s k) l :=
  List.foldl_append

theorem runSeries_nil (s : State) : runSeries s [] = s := rfl

theorem runSeries_cons (s : State) (t : Task) (l : List Task) : runSeries s (t :: l) = runSeries (t.run s).1 l := rfl

theorem unitEvent_eq (s : State) (x : RxFrame) : s.unitEvent x
    = (if s.ou.verdict = none then [] else [.openObligation])
      ++ if x.kind = .done then if x.topic.extractLsb' 6 6 = s.lc.station then [.doneArrival x] else []
        else if x.kind = .withdraw then [.withdrawArrival x] else [] := by
  unfold State.unitEvent
  congr 1
  · cases s.ou.verdict <;> rfl
  · cases hk : x.kind <;> simp [State.ownsDone, hk, CallTag.ofTopic]

/-- Where no entry is bound, the frame is matched, the units act, and the arbiter chooses. -/
theorem settleTasks_frameEnd {s : State} (hu : ∀ o, s.bound o = false) (x : RxFrame) (units : List Task)
    (few : (units.map Task.most).sum ≤ 4) : s.settleTasks [[.matchFrame x], units, [.choose]]
      = (runSeries (s.matchFrame x).1 units).arbiter := by
  rw [settleTasks_unbound s hu]
  · show runSeries s (.matchFrame x :: (units ++ [.choose])) = _
    rw [runSeries_cons, runSeries_append]
    rfl
  · show (((Task.matchFrame x :: (units ++ [.choose])).map Task.most).sum) ≤ taskBound
    simp only [List.map_cons, List.map_append, List.sum_cons, List.sum_append, List.map_nil, List.sum_nil,
      Task.most, taskBound]
    omega

theorem most_unitEvent_le (s : State) (x : RxFrame) : ((s.unitEvent x).map Task.most).sum ≤ 4 := by
  rw [unitEvent_eq]
  split <;> split <;> (try split) <;> simp [Task.most]

/-- The units' part in the end of a frame: the opening, and then the arrival. -/
theorem runSeries_unitEvent (s t : State) (x : RxFrame) : runSeries t (s.unitEvent x)
    = (fun u : State => match x.kind with
      | .cue | .call => u
      | .done => if x.topic.extractLsb' 6 6 = s.lc.station then (u.doneArrival x).1 else u
      | .withdraw => (u.withdrawArrival x).1) (if s.ou.verdict = none then t else t.openObligation.1) := by
  have hopening : runSeries t (if s.ou.verdict = none then [] else [.openObligation])
      = if s.ou.verdict = none then t else t.openObligation.1 := by split <;> rfl
  rw [unitEvent_eq, runSeries_append, hopening]
  cases x.kind with
  | cue => rfl
  | call => rfl
  | done =>
    simp only [if_true]
    split <;> split <;> rfl
  | withdraw => rfl

/-- Settles O34: the frame goes to the Acceptance Unit, to the unit that it concerns and to the choice. -/
theorem frameEndHandsTheFrameOn : Obligations.FrameEndHandsTheFrameOn := by
  intro s f hd hp hn hf x idle opening arrival ho hv ha hdone hw
  have hpe : s.lc.permits .frameEnd = true := by
    simp only [LinkController.permits, hp, hn, beq_self_eq_true, Option.isNone_none, Bool.and_self]
  have hrun : exec .frameEnd s = .next (s.setLc { s.lc with due := s.lc.due.erase .frameEnd }).endFrame :=
    congrArg Host.Outcome.next (carryFirst_of_mem s .frameEnd hd hpe)
  have hend : (s.setLc { s.lc with due := s.lc.due.erase .frameEnd }).endFrame
      = (idle.settleTasks [[.matchFrame x], s.unitEvent x, [.choose]]).ripen := by
    simp only [State.endFrame, State.setLc_lc, hf]
    rfl
  have hunit : s.unitEvent x = opening ++ arrival := by
    rw [unitEvent_eq]
    congr 1
    · split
      · next h => rw [ho h]
      · next h => rw [hv h]
    · cases hk : x.kind with
      | cue => simp [ha (.inl hk)]
      | call => simp [ha (.inr hk)]
      | done => simp [hdone hk]
      | withdraw => simp [hw hk]
  rw [hrun, hend]
  refine ⟨by rw [hunit], fun hu => ?_⟩
  have hidle : ∀ o, idle.bound o = false := hu
  rw [settleTasks_frameEnd hidle x _ (most_unitEvent_le s x)]
  exact congrArg (fun u : State => Host.Outcome.next u.arbiter.ripen)
    (runSeries_unitEvent s (idle.matchFrame x).1 x)

/-! ## Reset -/

theorem linkCounts_reset : LinkController.reset.CountsInv where
  stats c := (getElem_replicate_fin 0 c.ix).le.trans (by decide)
  failures := by decide
  dominant_run := by decide
  integration := by decide
  integration_done h := nomatch h
  recovery := by decide
  recovery_done h := nomatch h
  hold_end := by decide
  hold_end_done h := nomatch h
  persistence := by decide
  pulse := by decide
  hold_length := by decide
  quiet _ h := nomatch h
  retry_limit := by decide

/-- Settles O60: every invariant holds of the state that a device reset gives. -/
theorem invariantsHoldAfterReset : Obligations.InvariantsHoldAfterReset := by
  obtain ⟨hchoice, hbinding, hmarks⟩ := (owned_iff _).mp joint_reset
  have hobl (o : Fin 8) : State.reset.obl o = Obligation.free := getElem_replicate_fin _ o
  obtain ⟨htimers, htrains, houtputs⟩ := (timingInv_iff _).mpr (.inl timingOff_reset)
  refine ⟨linkInv_reset, hchoice, hbinding, hmarks, ?tags, accountsInv_reset, ?queue, ?counts, ?port, ?budget,
    htimers, htrains, houtputs⟩
  case tags =>
    have hfree (o : Fin 8) : (State.reset.obl o).state = .free := congrArg Obligation.state (hobl o)
    exact ⟨fun o h => (nomatch (hfree o).symm.trans h), fun o _ h => absurd (hfree o) h⟩
  case queue => exact ⟨Nat.zero_le _, by simp [State.flag, State.reset]⟩
  case counts =>
    exact
      { link := linkCounts_reset
        image := ⟨by decide, by decide⟩
        slots := fun i => by
          rw [show State.reset.slot i = Slot.reset from getElem_replicate_fin _ i]
          exact ⟨by decide, by decide, by decide, fun _ => by decide⟩
        calls := fun k => by
          rw [show State.reset.call k = CallEntry.freeWith 0 from getElem_replicate_fin _ k]
          exact ⟨by decide, by decide, by decide, by decide, fun _ => by decide⟩
        obligations := fun o => by
          rw [hobl]
          exact ⟨by decide, fun _ => by decide⟩
        fires := fun r => by
          rw [show State.reset.run r = ReactionRun.reset from getElem_replicate_fin _ r]
          decide }
  case port =>
    exact ⟨⟨fun _ => .inl rfl, fun _ => rfl⟩, fun _ h => (nomatch h), fun _ h => (nomatch h), fun h => (nomatch h)⟩
  case budget => exact fun h => absurd rfl h

end Sys2Proof.Machine
end

section
/-! SUPPORT. The verdict at the EOD point (R112 to R115). -/

namespace Sys2Proof.Machine

/-! ## The verdict (R113, R114) -/

section
variable {s : State} {tag : CallTag} {topic : Topic} {flt : Fin 16} {o : Fin 8}

theorem takeVerdict_of_holder (h : s.holderOf [.opened, .finishing, .failed] tag = some o) :
    s.takeVerdict tag topic flt = (s, .reused o) := by simp only [State.takeVerdict, h]

theorem takeVerdict_of_free (h : s.holderOf [.opened, .finishing, .failed] tag = none)
    (ho : s.lowestFreeObl = some o) :
    s.takeVerdict tag topic flt = ((s.supersede tag).reserveObl o tag topic flt, .reserved o) := by
  simp only [State.takeVerdict, h, ho]

theorem takeVerdict_of_full (h : s.holderOf [.opened, .finishing, .failed] tag = none)
    (ho : s.lowestFreeObl = none) : s.takeVerdict tag topic flt = (s, .busy) := by
  simp only [State.takeVerdict, h, ho]

theorem supersede_of_holder (h : s.holderOf [.withdrawn] tag = some o) :
    s.supersede tag = (s.setObl o Obligation.free).noteOblChanged o := by simp only [State.supersede, h]

theorem supersede_of_none (h : s.holderOf [.withdrawn] tag = none) : s.supersede tag = s := by
  simp only [State.supersede, h]

end

/-! ## The EOD point (R112, R115) -/

/-- The verdict is asked for of a station that receives the frame clean, with permission (R112; log 20). -/
def State.asked (s : State) (f : Frame) : Prop :=
  f.role = .receiver ∧ f.lost = false ∧ f.stopped = false ∧ s.permission = true ∧ s.ou.verdict = none

/-- The verdict stands and the station competes with its byte (R115). -/
def State.answering (s : State) (f : Frame) (a : Answer) : State :=
  let t := s.setVerdict (some { answer := a, placed := false })
  t.setLc { t.lc with frame := some { f with responder := .competing, ownByte := a.responseByte s.lc.station } }

section
variable {s : State} {f : Frame} (hf : s.lc.frame = some f)
include hf

theorem reachEod_of_not_asked (h : ¬ s.asked f) : s.reachEod = s := by
  simp only [State.reachEod, hf]
  exact if_neg h

theorem reachEod_of_no_filter (h : s.enrollingFilter (topicOf f.bits) = none) : s.reachEod = s := by
  simp only [State.reachEod, hf, h, ite_self]

theorem reachEod_of_asked {flt : Fin 16} (h : s.asked f) (hflt : s.enrollingFilter (topicOf f.bits) = some flt)
    {p : State × Answer} (hp : s.takeVerdict f.callTag (topicOf f.bits) flt = p)
    (hst : p.1.lc.station = s.lc.station) : s.reachEod = p.1.answering f p.2 := by
  simp only [State.reachEod, hf, hflt, hp]
  rw [State.answering, hst]
  exact if_pos h

end

/-- Settles O32: the verdict re-uses the entry of the tag, reserves the lowest FREE one, or is BUSY. -/
theorem eodPointTakesTheVerdict : Obligations.EodPointTakesTheVerdict := by
  intro s f hd hp hf topic reference tag holds asked answering
  have hpe : s.lc.permits .eodPoint = true := by simp only [LinkController.permits, hp, beq_self_eq_true]
  have hrun : exec .eodPoint s = .next (s.setLc { s.lc with due := s.lc.due.erase .eodPoint }).reachEod :=
    congrArg Host.Outcome.next (carryFirst_of_mem s .eodPoint hd hpe)
  have hholds (o : Fin 8) : (s.obl o).state ∈ [.opened, .finishing, .failed] ∧ (s.obl o).tag = tag ↔ holds o := by
    simp only [List.mem_cons, List.not_mem_nil, or_false]
    exact And.comm
  have hnone (hn : ∀ p, ¬ holds p) : s.holderOf [.opened, .finishing, .failed] tag = none :=
    holderOf_eq_none.mpr fun o hs ht => hn o ((hholds o).mp ⟨hs, ht⟩)
  have hused {o : Fin 8} (ho : holds o) (hlow : ∀ p, p < o → ¬ holds p) :
      s.holderOf [.opened, .finishing, .failed] tag = some o :=
    holderOf_eq_some.mpr ⟨(hholds o).mpr ho, fun p hp hx => hlow p hp ((hholds p).mp hx)⟩
  rw [hrun]
  refine ⟨fun h => ?nothing, fun flt o ha hflt ho hlow => ?reused,
    fun flt o ha hflt hn ho hlow => ⟨fun hnw => ?reserved, fun q hq hqt hqlow => ?superseded⟩,
    fun flt ha hflt hn hfull => ?busy⟩
  all_goals generalize hw : s.setLc { s.lc with due := s.lc.due.erase .eodPoint } = w
  all_goals have hwf : w.lc.frame = some f := by rw [← hw]; exact hf
  all_goals have hwh (l : List OblState) : w.holderOf l tag = s.holderOf l tag := by rw [← hw]; rfl
  all_goals have hwo : w.lowestFreeObl = s.lowestFreeObl := by rw [← hw]; rfl
  all_goals have hwe : w.enrollingFilter topic = s.enrollingFilter topic := by rw [← hw]; rfl
  all_goals have hwa : w.asked f ↔ asked := by rw [← hw]; exact Iff.rfl
  case nothing =>
    rcases h with h | h
    · rw [reachEod_of_not_asked hwf (mt hwa.mp h)]
    · rw [reachEod_of_no_filter hwf (hwe.trans h)]
  case reused =>
    rw [reachEod_of_asked hwf (hwa.mpr ha) (hwe.trans hflt)
      (takeVerdict_of_holder ((hwh _).trans (hused ho hlow))) rfl, ← hw]
    rfl
  case reserved =>
    have hnw' : s.holderOf [.withdrawn] tag = none :=
      holderOf_eq_none.mpr fun p hp => hnw p (List.mem_singleton.mp hp)
    have hsup : w.supersede f.callTag = w := supersede_of_none ((hwh _).trans hnw')
    rw [reachEod_of_asked hwf (hwa.mpr ha) (hwe.trans hflt) (takeVerdict_of_free ((hwh _).trans (hnone hn))
      (hwo.trans (lowestFreeObl_eq_some.mpr ⟨ho, hlow⟩))) (by rw [hsup]; rfl), hsup, ← hw]
    rfl
  case superseded =>
    have hwd : s.holderOf [.withdrawn] tag = some q :=
      holderOf_eq_some.mpr ⟨⟨List.mem_singleton.mpr hq, hqt⟩,
        fun p hp hx => hqlow p hp (List.mem_singleton.mp hx.1) hx.2⟩
    have hsup : w.supersede f.callTag = (w.setObl q Obligation.free).noteOblChanged q :=
      supersede_of_holder ((hwh _).trans hwd)
    rw [reachEod_of_asked hwf (hwa.mpr ha) (hwe.trans hflt) (takeVerdict_of_free ((hwh _).trans (hnone hn))
      (hwo.trans (lowestFreeObl_eq_some.mpr ⟨ho, hlow⟩))) (by rw [hsup]; rfl), hsup, ← hw]
    rfl
  case busy =>
    rw [reachEod_of_asked hwf (hwa.mpr ha) (hwe.trans hflt) (takeVerdict_of_full ((hwh _).trans (hnone hn))
      (hwo.trans (lowestFreeObl_eq_none.mpr hfull))) rfl, ← hw]
    rfl

end Sys2Proof.Machine
end

section
/-! SUPPORT. Filters and the matching of frames (R70 to R78). -/

namespace Sys2Proof.Machine

/-! ## A filter and a frame (R70) -/

/-- Two words agree wherever a mask compares. -/
theorem xor_and_eq_zero_iff {n : Nat} (v w mask : BitVec n) : (v ^^^ w) &&& mask = 0
    ↔ ∀ b, b < n → mask.getLsbD b = true → v.getLsbD b = w.getLsbD b := by
  have hbit (b : Nat) : ((v ^^^ w) &&& mask).getLsbD b = false
      ↔ (mask.getLsbD b = true → v.getLsbD b = w.getLsbD b) := by
    rw [BitVec.getLsbD_and, BitVec.getLsbD_xor]
    cases mask.getLsbD b <;> simp
  constructor
  · intro h b _
    exact (hbit b).mp (by rw [h]; exact BitVec.getLsbD_zero)
  · intro h
    refine BitVec.eq_of_getLsbD_eq fun b hb => ?_
    rw [(hbit b).mpr (h b hb)]
    exact BitVec.getLsbD_zero.symm

theorem filterMatches_iff {s : State} {f : Fin 16} {m : Fin 4} {kind : FrameKind} {topic : Topic}
    (hm : (s.filter f).maskIndex.toNat = m.val) : s.filterMatches kind topic f = true
      ↔ (s.filter f).enabled = true ∧ (s.filter f).kinds.getLsbD kind.code = true
        ∧ ∀ b, b < 12 → s.au.masks[m].getLsbD b = true → topic.getLsbD b = (s.filter f).topic.getLsbD b := by
  simp only [State.filterMatches, Filter.hasKind, State.agrees, ix_of_val _ m hm, Bool.and_eq_true, beq_iff_eq,
    and_assoc, xor_and_eq_zero_iff]

/-! ## The record (R77, R78) -/

theorem offerRecord_of_room {s : State} (r : RxRecord) (h : s.rq.length < 16) :
    s.offerRecord r = { s with rq := s.rq ++ [r] }.setFlag .rxReady := if_pos h

theorem offerRecord_of_full {s : State} (r : RxRecord) (h : 16 ≤ s.rq.length) :
    s.offerRecord r = (s.countStat .overruns).setFlag .rxOverrun := if_neg (Nat.not_lt.mpr h)

theorem offerRecord_au (s : State) (r : RxRecord) : (s.offerRecord r).au = s.au := by
  unfold State.offerRecord
  split <;> rfl

/-! ## The matching set (R72) -/

section
variable {s : State} {x : RxFrame}

theorem matchingSet_eq_nil (h : ∀ f, s.filterMatches x.kind x.topic f = false) :
    s.matchingSet x.kind x.topic = [] :=
  List.filter_eq_nil_iff.mpr fun f _ => by rw [h f]; exact Bool.false_ne_true

theorem matchingSet_eq_cons {r : Fin 16} (hr : s.filterMatches x.kind x.topic r = true)
    (hlow : ∀ g, g < r → s.filterMatches x.kind x.topic g = false) :
    ∃ rest, s.matchingSet x.kind x.topic = r :: rest := by
  have hhead : (s.matchingSet x.kind x.topic).head? = some r := by
    rw [State.matchingSet, List.head?_filter]
    exact (find_finRange_eq_some _ r).mpr ⟨hr, hlow⟩
  exact ⟨_, (List.cons_head?_tail hhead).symm⟩

theorem mem_matchingSet {f : Fin 16} :
    f ∈ s.matchingSet x.kind x.topic ↔ s.filterMatches x.kind x.topic f = true := by
  simp [State.matchingSet]

theorem matchFrame_of_none (h : ∀ f, s.filterMatches x.kind x.topic f = false) : s.matchFrame x = (s, []) := by
  simp only [State.matchFrame, matchingSet_eq_nil h]

/-- The filters that hand CUE_MATCH on, in ascending index (R73). -/
theorem filter_triggers_matchingSet : (s.matchingSet x.kind x.topic).filter (fun f => (s.filter f).triggers)
    = (List.finRange 16).filter fun f => s.filterMatches x.kind x.topic f && (s.filter f).roles.getLsbD 1 := by
  rw [State.matchingSet, List.filter_filter]
  exact List.filter_congr fun f _ => Bool.and_comm ..

theorem any_queues_matchingSet : (s.matchingSet x.kind x.topic).any (fun f => (s.filter f).queues) = true
    ↔ ∃ f, s.filterMatches x.kind x.topic f = true ∧ (s.filter f).roles.getLsbD 0 = true := by
  simp only [List.any_eq_true, mem_matchingSet, Filter.queues]

/-- A frame that filters match: all of them enter the match set, and the lowest names the record. -/
theorem matchFrame_of_lowest {r : Fin 16} (hr : s.filterMatches x.kind x.topic r = true)
    (hlow : ∀ g, g < r → s.filterMatches x.kind x.topic g = false) : s.matchFrame x
      = (if (s.matchingSet x.kind x.topic).any fun f => (s.filter f).queues
        then (s.addMatches (s.matchingSet x.kind x.topic)).offerRecord (x.record r s.now)
        else s.addMatches (s.matchingSet x.kind x.topic),
        ((List.finRange 16).filter fun f =>
          s.filterMatches x.kind x.topic f && (s.filter f).roles.getLsbD 1).map .cueMatch) := by
  obtain ⟨rest, hl⟩ := matchingSet_eq_cons hr hlow
  rw [← filter_triggers_matchingSet]
  simp only [State.matchFrame, hl]

theorem matchFrame_au {r : Fin 16} (hr : s.filterMatches x.kind x.topic r = true)
    (hlow : ∀ g, g < r → s.filterMatches x.kind x.topic g = false) :
    (s.matchFrame x).1.au = (s.addMatches (s.matchingSet x.kind x.topic)).au := by
  rw [matchFrame_of_lowest hr hlow]
  dsimp only
  split
  · exact offerRecord_au _ _
  · rfl

theorem getLsbD_addMatches (f : Fin 16) :
    (s.addMatches (s.matchingSet x.kind x.topic)).au.matchSet.getLsbD f.val
      = (s.au.matchSet.getLsbD f.val || s.filterMatches x.kind x.topic f) := by
  refine (foldl_withBit_getLsbD (Nat.le_refl 16) _ _ f).trans ?_
  congr 1
  rw [Bool.eq_iff_iff, decide_eq_true_iff, mem_matchingSet]

end

/-- Settles O35: the filters that match a frame enter the match set, queue one record and hand CUE_MATCH on. -/
theorem filtersMatchRecordAndReport : Obligations.FiltersMatchRecordAndReport := by
  refine ⟨⟨fun s f m kind topic hm => filterMatches_iff hm, fun s topic f => ?enrolling, fun s topic => ?none⟩,
    fun s x => ⟨matchFrame_of_none, fun r hr hlow => ?recorded⟩⟩
  case enrolling =>
    simp only [State.enrollingFilter, find_finRange_eq_some, Bool.and_eq_true, Filter.enrols,
      Bool.eq_false_iff, ne_eq]
  case none => simp [State.enrollingFilter, Filter.enrols]
  case recorded =>
    have hau := matchFrame_au hr hlow
    refine ⟨by rw [matchFrame_of_lowest hr hlow], fun f => by rw [hau, getLsbD_addMatches], by rw [hau]; rfl,
      fun hq => ?_, fun hq hroom => ?_, fun hq hfull => ?_⟩
    · rw [matchFrame_of_lowest hr hlow]
      dsimp only
      rw [if_neg (mt any_queues_matchingSet.mp hq)]
      rfl
    all_goals
      have ht : (s.matchFrame x).1 = (s.addMatches (s.matchingSet x.kind x.topic)).offerRecord (x.record r s.now) := by
        rw [matchFrame_of_lowest hr hlow]
        exact if_pos (any_queues_matchingSet.mpr hq)
    · rw [offerRecord_of_room _ (show (s.addMatches (s.matchingSet x.kind x.topic)).rq.length < 16 from hroom)] at ht
      rw [ht]
      refine ⟨rfl, rfl, ?_, fun f hf => ?_⟩
      · rw [flag_setFlag, decide_eq_true rfl, Bool.or_true]
      · rw [flag_setFlag, decide_eq_false hf.symm, Bool.or_false]
        rfl
    · rw [offerRecord_of_full _ (show 16 ≤ (s.addMatches (s.matchingSet x.kind x.topic)).rq.length from hfull)] at ht
      rw [ht]
      refine ⟨rfl, rfl, ?_, fun c hc => ?_, rfl, ?_, ?_, fun f ho hb => ?_⟩
      · rw [stat_setFlag, stat_countStat, if_pos rfl]
        rfl
      · rw [stat_setFlag, stat_countStat, if_neg hc]
        rfl
      · rw [flag_setFlag, decide_eq_true rfl, Bool.or_true]
      · rw [flag_setFlag, flag_countStat, decide_eq_true rfl, Bool.or_true, Bool.true_or]
      · rw [flag_setFlag, flag_countStat, decide_eq_false hb.symm, decide_eq_false ho.symm, Bool.or_false,
          Bool.or_false]
        rfl

end Sys2Proof.Machine
end

section
/-! SUPPORT. The arrivals at the Call Unit and the Obligation Unit (R93 to R96, R118, R124). -/

namespace Sys2Proof.Machine

/-! ## DONE arrivals (R93 to R96) -/

section
variable {s : State} {x : RxFrame} {k : Fin 8}

/-- A DONE is collected from an outstanding station of a live entry of its tag (R94). -/
def State.collects (s : State) (x : RxFrame) (k : Fin 8) : Prop :=
  (s.call k).generation = x.topic.extractLsb' 0 3
    ∧ ((s.call k).state = .opened ∨ (s.call k).state = .withdrawing) ∧ x.source ∈ (s.call k).outstanding

/-- A DONE is late from an unanswered station of an entry of its tag that was settled without it (R95). -/
def State.late (s : State) (x : RxFrame) (k : Fin 8) : Prop :=
  (s.call k).generation = x.topic.extractLsb' 0 3 ∧ (s.call k).state = .settled
    ∧ ((s.call k).outcome = some .expired ∨ (s.call k).outcome = some .withdrawn
      ∨ (s.call k).outcome = some .withdrawFailed ∨ (s.call k).outcome = some .abandoned)
    ∧ x.source ∈ (s.call k).unanswered

theorem outcome_late_iff (o : Option CallOutcome) : (∃ x ∈ o, x ∈ lateOutcomes)
    ↔ o = some .expired ∨ o = some .withdrawn ∨ o = some .withdrawFailed ∨ o = some .abandoned := by
  rcases o with _ | o
  · simp
  · cases o <;> simp [lateOutcomes]

variable (hk : (x.topic.extractLsb' 3 3).toNat = k.val)
include hk

theorem arrivalIndex : (Fin.ofNat 8 (CallTag.ofTopic x.topic).index.toNat : Fin 8) = k :=
  Fin.ext ((congrArg (· % 8) hk).trans (Nat.mod_eq_of_lt k.isLt))

theorem doneArrival_of_collects (h : s.collects x k) : s.doneArrival x = s.collectDone k x := by
  simp only [State.doneArrival, arrivalIndex hk]
  exact if_pos h

theorem doneArrival_of_late (h : s.late x k) : s.doneArrival x = (s.lateDone k x, []) := by
  obtain ⟨hg, hs, ho, hu⟩ := h
  simp only [State.doneArrival, arrivalIndex hk]
  exact (if_neg fun hc => by simp [hs] at hc).trans (if_pos ⟨hg, hs, (outcome_late_iff _).mpr ho, hu⟩)

theorem doneArrival_of_stray (hc : ¬ s.collects x k) (hl : ¬ s.late x k) : s.doneArrival x = (s.strayDone, []) := by
  simp only [State.doneArrival, arrivalIndex hk]
  exact (if_neg hc).trans (if_neg fun ⟨hg, hs, ho, hu⟩ => hl ⟨hg, hs, (outcome_late_iff _).mp ho, hu⟩)

end

/-! ## The end of a frame with a verdict record (R118) -/

section
variable {s : State} {o : Fin 8}

theorem breakVerdict_of_reserved {b : Bool} (hv : s.ou.verdict = some { answer := .reserved o, placed := b })
    (ho : (s.obl o).state = .reserved) : s.breakVerdict = (s.setObl o Obligation.free).setVerdict none := by
  simp only [State.breakVerdict, State.releaseVerdict, hv, ho, if_true]

theorem breakVerdict_of_ne_reserved {b : Bool} (hv : s.ou.verdict = some { answer := .reserved o, placed := b })
    (ho : (s.obl o).state ≠ .reserved) : s.breakVerdict = s.setVerdict none := by
  simp only [State.breakVerdict, State.releaseVerdict, hv, ho, if_false]

theorem breakVerdict_of_none (hv : ∀ o b, s.ou.verdict ≠ some { answer := .reserved o, placed := b }) :
    s.breakVerdict = s.setVerdict none := by
  unfold State.breakVerdict State.releaseVerdict
  split
  · next h => exact absurd h (hv _ _)
  · rfl

theorem openObligation_of_placed (hv : s.ou.verdict = some { answer := .reserved o, placed := true }) :
    s.openObligation = if (s.obl o).state = .reserved then
      ((((s.setObl o { s.obl o with state := .opened, openedAt := s.now }).setFlag .oblOpened).addOblOpened
        o).setVerdict none, [.obligationOpened (s.obl o).filter])
    else (s.setVerdict none, []) := by simp only [State.openObligation, hv]

theorem openObligation_of_not_placed (hv : ∀ o, s.ou.verdict ≠ some { answer := .reserved o, placed := true }) :
    s.openObligation = (s.breakVerdict, []) := by
  unfold State.openObligation
  split
  · next h => exact absurd h (hv _)
  · rfl

end

/-! ## WITHDRAW arrivals (R124) -/

section
variable {s : State} {x : RxFrame}

theorem withdrawArrival_of_none
    (h : s.holderOf [.opened, .finishing, .failed] (CallTag.ofTopic x.topic) = none) :
    s.withdrawArrival x = (s, []) := by simp only [State.withdrawArrival, h]

theorem withdrawArrival_of_holder {o : Fin 8}
    (h : s.holderOf [.opened, .finishing, .failed] (CallTag.ofTopic x.topic) = some o)
    (hfl : s.lc.inFlight ≠ some (.obligation o)) : s.withdrawArrival x
      = ((((s.setObl o { s.obl o with state := .withdrawn }).noteOblChanged o).arbiter),
        [.obligationWithdrawn (s.obl o).filter]) := by
  simp only [State.withdrawArrival, h]
  exact if_neg hfl

end

/-- Settles O36: a DONE is collected, late or stray, a WITHDRAW ends the obligation of its tag, and the end of a
frame opens the reservation that was placed. -/
theorem arrivalsChangeCallsAndObligations : Obligations.ArrivalsChangeCallsAndObligations := by
  refine ⟨fun s x k hk => ⟨fun hc hne => ?collected, fun hc he => ?lastCollected, fun hl => ?late,
    doneArrival_of_stray hk⟩, fun s x => ⟨fun hn => ?unheld, fun o ho hlow hfl => ?withdrawn⟩,
    fun s o hv => ⟨fun ho => ?opened, fun ho => ?gone⟩, fun s o hv => ⟨fun ho => ?released, fun ho => ?left⟩,
    fun s hv => ?others⟩
  case collected =>
    rw [doneArrival_of_collects hk hc, State.collectDone]
    simp only [State.call_setCall_self]
    exact if_neg (by simpa using hne)
  case lastCollected =>
    rw [doneArrival_of_collects hk hc, State.collectDone]
    simp only [State.call_setCall_self, he, List.isEmpty_nil, if_true, settleCall_written, State.now_setCall,
      State.setCall_setCall]
    rfl
  case late => exact doneArrival_of_late hk hl
  case unheld =>
    have hnone : s.holderOf [.opened, .finishing, .failed] (CallTag.ofTopic x.topic) = none :=
      holderOf_eq_none.mpr fun o hs ht => hn o ⟨ht, by simpa using hs⟩
    exact withdrawArrival_of_none hnone
  case withdrawn =>
    have hsome : s.holderOf [.opened, .finishing, .failed] (CallTag.ofTopic x.topic) = some o :=
      holderOf_eq_some.mpr ⟨⟨by simpa using ho.2, ho.1⟩, fun p hp hx => hlow p hp ⟨hx.2, by simpa using hx.1⟩⟩
    exact withdrawArrival_of_holder hsome hfl
  case opened => rw [openObligation_of_placed hv, if_pos ho]
  case gone => rw [openObligation_of_placed hv, if_neg ho]
  case released =>
    rw [openObligation_of_not_placed (by simp [hv]), breakVerdict_of_reserved hv ho]
    rfl
  case left => rw [openObligation_of_not_placed (by simp [hv]), breakVerdict_of_ne_reserved hv ho]
  case others => rw [openObligation_of_not_placed fun o => hv o true, breakVerdict_of_none hv]

end Sys2Proof.Machine
end

section
/-! SUPPORT. The time step (R91, R158, R160, R169, R174; log 3). -/

namespace Sys2Proof.Machine

/-! ## Where nothing waits (log 3) -/

theorem foldl_of_fixed {α β : Type} {f : α → β → α} {a : α} (l : List β) (h : ∀ b, f a b = a) :
    l.foldl f a = a := by
  induction l with
  | nil => rfl
  | cons b l ih => rw [List.foldl_cons, h, ih]

theorem edgeInput_of_not_due {s : State} {k : Fin 8} (h : (s.input k).edgeDue = false) : s.edgeInput k = s :=
  if_neg (by simp [h])

theorem expireTimer_of_not_expiring {s : State} {t : Fin 4} (h : (s.timer t).expiring = false) :
    s.expireTimer t = s := if_neg (by simp [h])

theorem leadTrain_of_not_due {s : State} {g : Fin 2} (h : (s.train g).leadingDue = false) : s.leadTrain g = s :=
  if_neg (by simp [h])

theorem trailTrain_of_not_due {s : State} {g : Fin 2} (h : (s.train g).trailingDue = false) :
    s.trailTrain g = s := if_neg (by simp [h])

theorem expireCall_of_not_expiring {s : State} {k : Fin 8} (h : (s.call k).expiring = false) :
    s.expireCall k = s := if_neg (by simp [h])

theorem edgeTrain_of_not_due {s : State} {g : Fin 2} (h : (s.train g).edgeDue = false) : s.edgeTrain g = s := by
  unfold State.edgeTrain
  split
  · exact leadTrain_of_not_due (by simp [Train.leadingDue, h])
  · exact trailTrain_of_not_due (by simp [Train.trailingDue, h])

/-- Where nothing waits, nothing is carried out. -/
theorem settleDue_of_rested {s : State} (h : s.Rested) : s.settleDue = s := by
  rw [State.settleDue, h.line, List.length_nil, drainLine, State.drainTime,
    foldl_of_fixed _ fun k => edgeInput_of_not_due (h.inputs k)]
  rw [foldl_of_fixed _ fun t => expireTimer_of_not_expiring (h.timers t)]
  rw [foldl_of_fixed _ fun g => edgeTrain_of_not_due (h.trains g),
    foldl_of_fixed _ fun k => expireCall_of_not_expiring (h.calls k)]

/-! ## One microsecond (R91, R158, R160, R169, R174) -/

section
variable (s : State) (inputs : Byte)

theorem timer_tick (t : Fin 4) : (s.tick inputs).timer t = (s.timer t).tick := Vector.getElem_ofFn t.isLt

theorem train_tick (g : Fin 2) : (s.tick inputs).train g = (s.train g).tick := Vector.getElem_ofFn g.isLt

theorem input_tick (k : Fin 8) : (s.tick inputs).input k = (s.input k).sample (inputs.getLsbD k.val) :=
  Vector.getElem_ofFn k.isLt

theorem call_tick_of_held (h : s.lc.held = true) (k : Fin 8) : (s.tick inputs).call k = s.call k := by
  simp only [State.call, State.tick, h, if_true]

theorem call_tick_of_clear (h : s.lc.held = false) (k : Fin 8) : (s.tick inputs).call k = (s.call k).tick := by
  rw [call_tick, h]
  rfl

end

theorem partLength_eq (t : Train) : t.partLength = if t.part = .rest then t.period - t.width else t.width := by
  unfold Train.partLength
  cases t.part <;> rfl

/-- Settles O42: once nothing waits, a time step counts one microsecond everywhere, and what reaches its end
waits as its own event. -/
theorem timeStepCountsOneMicrosecond : Obligations.TimeStepCountsOneMicrosecond := by
  refine ⟨fun s => settleDue_of_rested, fun s inputs => ⟨s.settleDue.tick inputs, rfl, ?_⟩⟩
  generalize s.settleDue = u
  refine ⟨rfl, fun x hr => ?idle, fun x hr hc => ?counts, fun x hr hc => ?expires, fun g hr => ?still,
    fun g hr => ?runs, fun k h => ?stands, fun k hh ho => ?calls, fun k hl => ?steady, fun k hl hn => ?changed,
    fun k n hl hn => ?settling, rfl, rfl, rfl⟩
  case idle => rw [timer_tick, Timer.tick, hr]; rfl
  case counts => rw [timer_tick, Timer.tick, if_pos hr, if_pos hc]
  case expires => rw [timer_tick, Timer.tick, if_pos hr, if_neg (Nat.not_lt.mpr hc)]
  case still => rw [train_tick, Train.tick, hr]; rfl
  case runs => rw [train_tick, Train.tick, if_pos hr, partLength_eq]
  case stands =>
    cases hh : u.lc.held with
    | true => exact call_tick_of_held _ _ hh k
    | false =>
      rw [call_tick_of_clear _ _ hh, CallEntry.tick, if_neg (h.resolve_left (by simp [hh]))]
  case calls => rw [call_tick_of_clear _ _ hh, CallEntry.tick, if_pos ho]
  case steady => rw [input_tick, InputLine.sample, if_pos hl]
  case changed => rw [input_tick, InputLine.sample, if_neg hl, hn]
  case settling => rw [input_tick, InputLine.sample, if_neg hl, hn]

end Sys2Proof.Machine
end

section
/-! SUPPORT. The edge of an input line (R166, R175) and one bit read at the Link Controller (R22, R23, R26, R33,
R40). -/

namespace Sys2Proof.Machine

/-! ## Input edges (R175) -/

theorem edge_to_not (b : Bool) : Edge.to (!b) = if b then .fall else .rise := by cases b <;> rfl

theorem edgeInput_of_due {s : State} {k : Fin 8} (h : (s.input k).edgeDue = true) : s.edgeInput k
    = (s.setInput k { s.input k with level := !(s.input k).level, settling := none, edgeDue := false }).settleTasks
      [[.count 0 k (if (s.input k).level then .fall else .rise)],
        [.count 1 k (if (s.input k).level then .fall else .rise)],
        [.take (.inputEdge k (if (s.input k).level then .fall else .rise))]] := by
  rw [← edge_to_not]
  exact if_pos h

/-- Settles O44: the level settles, and the counts and the occurrence follow. -/
theorem inputEdgeSettlesCountsAndIsTaken : Obligations.InputEdgeSettlesCountsAndIsTaken := by
  intro s k hd e settled
  have hrun : exec (.inputEdge k) s
      = .next (settled.settleTasks [[.count 0 k e], [.count 1 k e], [.take (.inputEdge k e)]]) :=
    congrArg Host.Outcome.next (edgeInput_of_due hd)
  refine ⟨hrun, fun hu => ?_⟩
  have hu₀ := run_unbound settled hu (.count 0 k e)
  have hu₁ := run_unbound _ hu₀ (.count 1 k e)
  rw [hrun, settleTasks_unbound settled hu _ (by simp [Task.most, taskBound])]
  exact congrArg Host.Outcome.next (take_of_unbound _ hu₁ _)

/-! ## What a bit means to the phase (R22, R23, R26) -/

section
variable {lc : LinkController} (own : Bool) (read : Level)

theorem phaseBit_of_await (h : lc.phase = .await) : lc.phaseBit own read
    = ({ lc with integration := if read = .recessive then lc.integration + 1 else 0 },
      if read = .recessive ∧ lc.integration + 1 = 12 then [.integration] else []) := by
  cases read <;> simp [LinkController.phaseBit, h, Config.integrationAt]

theorem phaseBit_of_idle (h : lc.phase = .idle) : lc.phaseBit own read
    = (lc, if read = .dominant ∧ own = false then [.peerSof] else []) := by
  cases read <;> cases own <;> simp [LinkController.phaseBit, h]

theorem phaseBit_of_frame {f : Frame} (h : lc.phase = .frame) (hf : lc.frame = some f) : lc.phaseBit own read
    = ({ lc with frame := some (f.bit read).1 }, (f.bit read).2) := by
  cases read <;> simp [LinkController.phaseBit, h, hf]

theorem phaseBit_of_recovery (h : lc.phase = .recovery) : lc.phaseBit own read
    = ({ lc with recovery := if read = .recessive then lc.recovery + 1 else 0 },
      if read = .recessive ∧ lc.recovery + 1 = 8 then [.recoveryGap] else []) := by
  cases read <;> simp [LinkController.phaseBit, h, Config.recoveryAt]

theorem phaseBit_of_hold_dominant (h : lc.phase = .hold) : lc.phaseBit own .dominant
    = ({ lc with
        persistence := if lc.persistence + 1 = 2048 then 0 else lc.persistence + 1
        holdEnd := 0 },
      if lc.persistence + 1 = 2048 then [.persistenceMark] else []) := by
  simp only [LinkController.phaseBit, h, Config.persistenceAt]
  split <;> rfl

theorem phaseBit_of_hold_recessive (h : lc.phase = .hold) : lc.phaseBit own .recessive
    = ({ lc with persistence := 0, holdEnd := lc.holdEnd + 1 },
      if lc.holdEnd + 1 = 12 then [.holdEnded] else []) := by
  simp only [LinkController.phaseBit, h]
  rfl

/-- A bit moves what its phase counts and nothing else. -/
theorem phaseBit_frame : (lc.phaseBit own read).1 = { lc with
    integration := if lc.phase = .await then (lc.phaseBit own read).1.integration else lc.integration
    frame := if lc.phase = .frame then (lc.phaseBit own read).1.frame else lc.frame
    recovery := if lc.phase = .recovery then (lc.phaseBit own read).1.recovery else lc.recovery
    persistence := if lc.phase = .hold then (lc.phaseBit own read).1.persistence else lc.persistence
    holdEnd := if lc.phase = .hold then (lc.phaseBit own read).1.holdEnd else lc.holdEnd } := by
  obtain ⟨_, phase, _, _, _, _, _, _, _, frame⟩ := lc
  cases phase with
  | out => simp [LinkController.phaseBit]
  | await => simp [phaseBit_of_await]
  | idle => simp [phaseBit_of_idle]
  | frame =>
    cases frame with
    | none => simp [LinkController.phaseBit]
    | some f => simp [phaseBit_of_frame]
  | recovery => simp [phaseBit_of_recovery]
  | hold =>
    cases read with
    | dominant => simp [phaseBit_of_hold_dominant]
    | recessive => simp [phaseBit_of_hold_recessive]

end

/-! ## One bit (R22, R23, R26, R33, R40) -/

theorem runBit_eq (lc : LinkController) (read : Level) : lc.runBit read
    = ({ lc with dominantRun := if read = .dominant then min (lc.dominantRun + 1) 16 else 0 },
      if read = .dominant ∧ lc.dominantRun + 1 = 16 ∧ lc.phase ≠ .hold then [.holdDetected] else []) := by
  cases read <;> simp [LinkController.runBit, Config.holdDetectedAt]

theorem pulseBit_eq (lc : LinkController) : lc.pulseBit
    = ({ lc with pulse := if lc.pulse ≤ 1 then lc.pulse else lc.pulse - 1 },
      if lc.pulse = 1 then [.pulseEnds] else []) := by
  unfold LinkController.pulseBit
  split
  · next h => rw [if_pos (by omega), if_neg (by omega)]
  · next h0 =>
    split
    · next h => rw [if_pos (by omega)]
    · next h1 => rw [if_neg (by omega)]

/-- The QUIET count after a bit. -/
def quietAfter (n : Nat) : Nat := if n + 1 < 8192 then n + 1 else n

theorem quietBit_eq (lc : LinkController) : lc.quietBit = ({ lc with quiet := lc.quiet.map quietAfter },
    if ∃ n, lc.quiet = some n ∧ 8192 ≤ n + 1 then [.quietEnds] else []) := by
  unfold LinkController.quietBit
  split
  · next h =>
    have hq : lc.quiet.map quietAfter = lc.quiet := by rw [h]; rfl
    rw [hq, if_neg (by simp [h])]
  · next n h =>
    by_cases hn : n + 1 < 8192
    · have hq : lc.quiet.map quietAfter = some (n + 1) := by rw [h, Option.map_some, quietAfter, if_pos hn]
      have hend : ¬ ∃ m, lc.quiet = some m ∧ 8192 ≤ m + 1 := by simp [h]; omega
      refine (if_pos hn).trans ?_
      rw [hq, if_neg hend]
    · have hq : lc.quiet.map quietAfter = lc.quiet := by rw [h, Option.map_some, quietAfter, if_neg hn]
      refine (if_neg hn).trans ?_
      rw [hq]
      exact congrArg (Prod.mk lc) (if_pos ⟨n, h, Nat.not_lt.mp hn⟩).symm

/-- The count of dominant bits has no part in what a bit means to the phase. -/
theorem phaseBit_with_dominantRun (lc : LinkController) (n : Nat) (own : Bool) (read : Level) :
    LinkController.phaseBit { lc with dominantRun := n } own read
      = ({ (lc.phaseBit own read).1 with dominantRun := n }, (lc.phaseBit own read).2) := by
  obtain ⟨_, phase, _, _, _, _, _, _, _, frame⟩ := lc
  cases phase with
  | out => cases read <;> rfl
  | await => cases read <;> rfl
  | idle => cases read <;> rfl
  | frame => cases read <;> cases frame <;> rfl
  | recovery => cases read <;> rfl
  | hold =>
    cases read with
    | dominant => rw [phaseBit_of_hold_dominant _ rfl, phaseBit_of_hold_dominant _ rfl]
    | recessive => rfl

theorem bit_eq (lc : LinkController) (own : Bool) (read : Level) : lc.bit own read
    = { (lc.phaseBit own read).1 with
      dominantRun := if read = .dominant then min (lc.dominantRun + 1) 16 else 0
      pulse := if lc.pulse ≤ 1 then lc.pulse else lc.pulse - 1
      quiet := lc.quiet.map quietAfter
      due := lc.due ++ (lc.phaseBit own read).2
        ++ (if read = .dominant ∧ lc.dominantRun + 1 = 16 ∧ lc.phase ≠ .hold then [.holdDetected] else [])
        ++ (if lc.pulse = 1 then [.pulseEnds] else [])
        ++ (if ∃ n, lc.quiet = some n ∧ 8192 ≤ n + 1 then [.quietEnds] else []) } := by
  have hp : (lc.phaseBit own read).1.pulse = lc.pulse := by rw [phaseBit_frame]
  have hq : (lc.phaseBit own read).1.quiet = lc.quiet := by rw [phaseBit_frame]
  simp only [LinkController.bit, runBit_eq, phaseBit_with_dominantRun, pulseBit_eq, quietBit_eq, hp, hq]

theorem readBit_eq (u : State) (read : Level) : u.readBit read = u.setLc { u.lc.bit u.drivesHold read with
    choice := if u.lc.phase = .idle then u.lc.choice.map fun c => { c with due := true } else u.lc.choice } := by
  have hp : (u.lc.bit u.drivesHold read).phase = u.lc.phase := by rw [bit_eq, phaseBit_frame]
  have hc : (u.lc.bit u.drivesHold read).choice = u.lc.choice := by rw [bit_eq, phaseBit_frame]
  unfold State.readBit State.ripenIdle
  by_cases h : u.lc.phase = .idle
  · rw [if_pos h, ← hc]
    exact if_pos (hp.trans h)
  · rw [if_neg h, ← hc]
    exact if_neg fun hx => h (hp.symm.trans hx)

/-! ## The level on BUSTX (R1, R12, R28, R33) -/

theorem driven_eq_dominant_iff (u : State) : u.driven = .dominant
    ↔ u.lc.state = .active ∧ (u.ownHold = true ∨ ∃ f, u.lc.frame = some f ∧ f.drive = .dominant) := by
  unfold State.driven State.drivesHold
  by_cases ha : u.lc.state = .active
  · cases u.ownHold with
    | true => simp [ha]
    | false => cases u.lc.frame <;> simp [ha]
  · cases u.lc.frame <;> simp [ha]

/-- A station at rest whose chosen SOF is due drives it in this bit time. -/
theorem busTx_of_due_choice {s : State} {c : Candidate} (h : s.Rested)
    (hc : s.lc.choice = some { candidate := c, due := true }) (hm : s.mayChoose = true) :
    s.busTx = .dominant := by
  obtain ⟨ha, _, _, _, hp, _⟩ := (mayChoose_iff s).mp hm
  have hs : s.driveDueSof = s.driveSof c := by
    simp only [State.driveDueSof, hc, sofReady_of_choice hc h.line hm]
  rw [busTx_of_ne_out s (by rw [hp]; decide), State.inBitTime, settleDue_of_rested h, hs]
  exact driven_driveSof s c ha

/-- Settles O45: a sample point reads one bit, and what the bit brings about waits in order. -/
theorem samplePointReadsOneBit : Obligations.SamplePointReadsOneBit := by
  refine ⟨fun s read h => ⟨congrArg Host.Outcome.next (if_pos h), busTx_of_out s h⟩,
    fun s c => busTx_of_due_choice, fun s read h => ?_⟩
  have hrun : exec (.samplePoint read) s = .next (s.settleDue.driveDueSof.readBit read) :=
    execSamplePoint_of_ne_out s read h
  have htx : s.busTx = s.settleDue.driveDueSof.driven := busTx_of_ne_out s h
  rw [htx, hrun]
  generalize s.settleDue.driveDueSof = u
  refine ⟨driven_eq_dominant_iff u, _, (u.lc.phaseBit u.drivesHold read).2, rfl, ?_⟩
  rw [readBit_eq, bit_eq]
  refine ⟨rfl, rfl, rfl, rfl, fun n hq => ?quiet, fun hq => ?noQuiet, fun hp => ?await, fun hp => ?idle,
    fun f hp hf => ?frame, fun hp => ?recovery, fun hp hr => ?dominant, fun hp hr => ?recessive,
    fun hp => if_pos hp, fun hp => if_neg hp, ?rest⟩
  case quiet => exact congrArg (Option.map quietAfter) hq
  case noQuiet => exact congrArg (Option.map quietAfter) hq
  case await => rw [phaseBit_of_await _ _ hp]; exact ⟨rfl, rfl⟩
  case idle =>
    rw [phaseBit_of_idle _ _ hp]
    refine if_congr (and_congr_right' ?_) rfl rfl
    simp [State.drivesHold]
  case frame => rw [phaseBit_of_frame _ _ hp hf]; exact ⟨rfl, rfl⟩
  case recovery => rw [phaseBit_of_recovery _ _ hp]; exact ⟨rfl, rfl⟩
  case dominant => rw [hr, phaseBit_of_hold_dominant _ hp]; exact ⟨rfl, rfl, rfl⟩
  case recessive => rw [hr, phaseBit_of_hold_recessive _ hp]; exact ⟨rfl, rfl, rfl⟩
  case rest =>
    conv_lhs => rw [phaseBit_frame]
    rfl

end Sys2Proof.Machine
end

section
/-! SUPPORT. A bit of the frame in progress: errors by their place (R4, R13, R14, R17, R20, R21). -/

namespace Sys2Proof.Machine

/-! ## Legality tests (R5 to R9) -/

/-- A kind field holds one of the four kinds, or none. -/
theorem kindOf_cases (bits : List Bool) : (field bits 3 3 = 0 ∧ kindOf bits = some .cue)
    ∨ (field bits 3 3 = 1 ∧ kindOf bits = some .call) ∨ (field bits 3 3 = 2 ∧ kindOf bits = some .done)
    ∨ (field bits 3 3 = 3 ∧ kindOf bits = some .withdraw) ∨ (3 < field bits 3 3 ∧ kindOf bits = none) := by
  unfold kindOf
  rcases field bits 3 3 with _ | _ | _ | _ | k <;> simp [FrameKind.ofCode]

theorem legalLength_eq_false (k : FrameKind) (n : Nat) : legalLength k n = false
    ↔ (k = .cue ∧ 8 < n) ∨ (k = .call ∧ (n = 0 ∨ 8 < n)) ∨ (k = .done ∧ (n = 0 ∨ 7 < n))
      ∨ (k = .withdraw ∧ n ≠ 0) := by
  cases k <;> unfold legalLength <;> grind

theorem legalAt_kind {bits : List Bool} : legalAt bits 6 = false ↔ 3 < field bits 3 3 := by
  rcases kindOf_cases bits with ⟨hf, hk⟩ | ⟨hf, hk⟩ | ⟨hf, hk⟩ | ⟨hf, hk⟩ | ⟨hf, hk⟩ <;> simp [legalAt, hk, hf]

theorem legalAt_tag {bits : List Bool} : legalAt bits 18 = false
    ↔ (field bits 3 3 = 2 ∨ field bits 3 3 = 3) ∧ field bits 6 6 = 0 := by
  rcases kindOf_cases bits with ⟨hf, hk⟩ | ⟨hf, hk⟩ | ⟨hf, hk⟩ | ⟨hf, hk⟩ | ⟨hf, hk⟩ <;> simp [legalAt, hk]
    <;> omega

theorem legalAt_source {bits : List Bool} : legalAt bits 24 = false ↔ field bits 18 6 = 0 := by simp [legalAt]

theorem legalAt_length {bits : List Bool} : legalAt bits 28 = false
    ↔ (field bits 3 3 = 0 ∧ 8 < field bits 24 4)
      ∨ (field bits 3 3 = 1 ∧ (field bits 24 4 = 0 ∨ 8 < field bits 24 4))
      ∨ (field bits 3 3 = 2 ∧ (field bits 24 4 = 0 ∨ 7 < field bits 24 4))
      ∨ (field bits 3 3 = 3 ∧ field bits 24 4 ≠ 0) ∨ 3 < field bits 3 3 := by
  rcases kindOf_cases bits with ⟨hf, hk⟩ | ⟨hf, hk⟩ | ⟨hf, hk⟩ | ⟨hf, hk⟩ | ⟨hf, hk⟩ <;>
    simp [legalAt, hk, hf, legalLength_eq_false, lengthOf]

theorem legalAt_reference {bits : List Bool} : legalAt bits 36 = false
    ↔ field bits 3 3 = 1 ∧ field bits 34 2 ≠ 0 := by
  rcases kindOf_cases bits with ⟨hf, hk⟩ | ⟨hf, hk⟩ | ⟨hf, hk⟩ | ⟨hf, hk⟩ | ⟨hf, hk⟩ <;>
    simp [legalAt, hk, hf]
  omega

theorem legalAt_elsewhere {bits : List Bool} {n : Nat} (h₁ : n ≠ 6) (h₂ : n ≠ 18) (h₃ : n ≠ 24) (h₄ : n ≠ 28)
    (h₅ : n ≠ 36) : legalAt bits n = true := by
  unfold legalAt
  split <;> first | contradiction | rfl

/-- The places at which a frame is found illegal. -/
theorem legalAt_eq_false {bits : List Bool} {n : Nat} : legalAt bits n = false
    ↔ (n = 6 ∧ 3 < field bits 3 3)
      ∨ (n = 18 ∧ (field bits 3 3 = 2 ∨ field bits 3 3 = 3) ∧ field bits 6 6 = 0)
      ∨ (n = 24 ∧ field bits 18 6 = 0)
      ∨ (n = 28 ∧ ((field bits 3 3 = 0 ∧ 8 < field bits 24 4)
        ∨ (field bits 3 3 = 1 ∧ (field bits 24 4 = 0 ∨ 8 < field bits 24 4))
        ∨ (field bits 3 3 = 2 ∧ (field bits 24 4 = 0 ∨ 7 < field bits 24 4))
        ∨ (field bits 3 3 = 3 ∧ field bits 24 4 ≠ 0) ∨ 3 < field bits 3 3))
      ∨ (n = 36 ∧ field bits 3 3 = 1 ∧ field bits 34 2 ≠ 0) := by
  by_cases h₁ : n = 6
  · simp [h₁, legalAt_kind]
  by_cases h₂ : n = 18
  · simp [h₂, legalAt_tag]
  by_cases h₃ : n = 24
  · simp [h₃, legalAt_source]
  by_cases h₄ : n = 28
  · simp [h₄, legalAt_length]
  by_cases h₅ : n = 36
  · simp [h₅, legalAt_reference]
  simp [h₁, h₂, h₃, h₄, h₅, legalAt_elsewhere h₁ h₂ h₃ h₄ h₅]

/-! ## An error at its place (R20) -/

theorem fail_eq (f : Frame) (tx : TxCode) (rx : RxCode) : f.fail tx rx = { f with
    stopped := true
    txCode := if f.role = .transmitter then some tx else f.txCode
    rxCode := if f.role = .receiver then some rx else f.rxCode } := by
  unfold Frame.fail
  cases h : f.role <;> rfl

theorem fail_of_receiver {f : Frame} (h : f.role = .receiver) (tx : TxCode) (rx : RxCode) :
    f.fail tx rx = { f with stopped := true, rxCode := some rx } := by simp only [Frame.fail, h]

theorem fail_of_transmitter {f : Frame} (h : f.role = .transmitter) (tx : TxCode) (rx : RxCode) :
    f.fail tx rx = { f with stopped := true, txCode := some tx } := by simp only [Frame.fail, h]

section
variable {f : Frame} {read : Level}

theorem readBit_of_stuff_error (h : f.run = 5) (hr : read = f.last) :
    f.readBit read = (f.fail .stuff .stuff, []) := by
  unfold Frame.readBit
  rw [if_pos (show f.stuffDue = true from beq_iff_eq.mpr h), if_pos hr]

theorem readBit_of_stuff (h : f.run = 5) (hr : read ≠ f.last) : f.readBit read = f.stuffed read := by
  unfold Frame.readBit
  rw [if_pos (show f.stuffDue = true from beq_iff_eq.mpr h), if_neg hr]

theorem readBit_of_plain (h : f.run ≠ 5) : f.readBit read = f.plainBit read := by
  unfold Frame.readBit
  rw [if_neg (show ¬ f.stuffDue = true from fun hx => h (beq_iff_eq.mp hx))]

/-- A header, data or check bit, no stuff bit. -/
theorem readBit_of_content (h : f.run ≠ 5) (he : f.elem = .header ∨ f.elem = .data ∨ f.elem = .check) :
    f.readBit read = (f.contentBit read, []) := by
  rw [readBit_of_plain h]
  rcases he with he | he | he <;> simp only [Frame.plainBit, he]

theorem contentBit_of_receiver (h : f.role = .receiver) : f.contentBit read = f.takeBit read := by
  simp only [Frame.contentBit, h]

theorem sends_of_content (h : f.run ≠ 5) (he : f.elem = .header ∨ f.elem = .data ∨ f.elem = .check) :
    f.sends = Level.ofBit (f.toSend.headD true) := by
  have hs : ¬ f.stuffDue = true := fun hx => h (beq_iff_eq.mp hx)
  rcases he with he | he | he <;> simp only [Frame.sends, he, hs, Bool.false_eq_true, if_false]

end

/-! ## A bit taken in (R5 to R10) -/

/-- A header or data bit leads at most to the next element. -/
theorem advance_of_body {f : Frame} (h : f.elem = .header ∨ f.elem = .data) :
    ∃ e n, f.advance = { f with elem := e, count := n } := by
  rcases h with h | h <;> simp only [Frame.advance, h]
  · split
    · exact ⟨f.elem, f.count, rfl⟩
    · split <;> exact ⟨_, _, rfl⟩
  · split
    · exact ⟨f.elem, f.count, rfl⟩
    · exact ⟨_, _, rfl⟩

/-- A frame with a header or data bit read. -/
def Frame.withBit (f : Frame) (read : Level) : Frame :=
  { f.counted read with count := f.count + 1, bits := f.bits ++ [read.bit], crc := crcStep f.crc read.bit }

section
variable {f : Frame} {read : Level} (he : f.elem = .header ∨ f.elem = .data)
include he

theorem takeBit_of_illegal (hr : f.role = .receiver)
    (h : legalAt (f.bits ++ [read.bit]) (f.bits ++ [read.bit]).length = false) :
    f.takeBit read = { f.withBit read with stopped := true, rxCode := some .form } := by
  have hc : f.elem ≠ .check := by rcases he with he | he <;> simp [he]
  unfold Frame.takeBit
  rw [if_neg hc]
  exact (if_pos ⟨hr, h⟩).trans (fail_of_receiver (f := f.withBit read) hr .form .form)

theorem takeBit_of_legal
    (h : ¬ (f.role = .receiver ∧ legalAt (f.bits ++ [read.bit]) (f.bits ++ [read.bit]).length = false)) :
    ∃ e n, f.takeBit read = { f.withBit read with elem := e, count := n } := by
  have hc : f.elem ≠ .check := by rcases he with he | he <;> simp [he]
  obtain ⟨e, n, ha⟩ := advance_of_body (f := f.withBit read) he
  refine ⟨e, n, ?_⟩
  unfold Frame.takeBit
  rw [if_neg hc]
  exact (if_neg h).trans ha

/-- A bit taken in leaves the station's role and its own code. -/
theorem takeBit_of_body_keeps (hr : f.role = .receiver) : (f.takeBit read).role = .receiver
    ∧ (f.takeBit read).lost = f.lost ∧ (f.takeBit read).txCode = f.txCode := by
  by_cases h : legalAt (f.bits ++ [read.bit]) (f.bits ++ [read.bit]).length = false
  · rw [takeBit_of_illegal he hr h]
    exact ⟨hr, rfl, rfl⟩
  · obtain ⟨e, n, ht⟩ := takeBit_of_legal he fun hx => h hx.2
    rw [ht]
    exact ⟨hr, rfl, rfl⟩

end

/-! ## The check (R10, R14) -/

section
variable {f : Frame} {read : Level} (he : f.elem = .check) (hn : f.count = 15)
include he hn

theorem takeBit_of_disagreeing (hr : f.role = .receiver) (h : natOf (f.check ++ [read.bit]) ≠ f.crc.toNat) :
    f.takeBit read = { f.counted read with
      count := 16, check := f.check ++ [read.bit], stopped := true, rxCode := some .check } := by
  simp only [Frame.takeBit, he, if_true, hn, Frame.advance, Frame.counted, hr]
  rw [if_neg (by decide), if_pos ⟨trivial, h⟩]
  exact fail_of_receiver rfl .bit .check

theorem takeBit_of_agreeing (h : natOf (f.check ++ [read.bit]) = f.crc.toNat) : ∃ run,
    f.takeBit read = { f.counted read with
      elem := .eod, count := 0, check := f.check ++ [read.bit], run := run } := by
  simp only [Frame.takeBit, he, if_true, hn, Frame.advance, Frame.counted]
  rw [if_neg (by decide), if_neg fun hx => hx.2 h]
  exact ⟨_, rfl⟩

end

/-! ## Settlement (R21) -/

theorem bit_of_dominant {f : Frame} (h : f.stopped = false) : f.bit .dominant = f.readBit .dominant := by
  simp [Frame.bit, h]

theorem bit_of_recessive {f : Frame} (h : f.stopped = false) : f.bit .recessive
    = ({ (f.readBit .recessive).1 with txCode := none, rxCode := none },
      (f.readBit .recessive).1.settling ++ (f.readBit .recessive).2) := by simp [Frame.bit, h]

theorem bit_of_stopped_dominant {f : Frame} (h : f.stopped = true) : f.bit .dominant = (f, []) := by
  simp [Frame.bit, h]

theorem bit_of_stopped_recessive {f : Frame} (h : f.stopped = true) :
    f.bit .recessive = ({ f with txCode := none, rxCode := none }, f.settling) := by simp [Frame.bit, h]

/-- Settles O46: each bit read wrong is the error of its place, and a code settles at a recessive bit. -/
theorem bitsReadWrongAreTheErrorsOfTheirPlace : Obligations.BitsReadWrongAreTheErrorsOfTheirPlace := by
  refine ⟨fun f read hs h5 hl => ?stuff, fun f read ht h5 he hne => ⟨fun hd hh hc => ?loss, fun hx => ?bit⟩,
    fun f he h5 => ?form, fun f read hr hs h5 he => ?receiver, fun f read hr hs h5 he hc => ?check,
    fun f hs => ⟨bit_of_dominant hs, bit_of_recessive hs⟩,
    fun f hs => ⟨if_pos hs, bit_of_stopped_dominant hs⟩, fun f hs => bit_of_stopped_recessive hs⟩
  case stuff => rw [readBit_of_stuff_error h5 hl, fail_eq]
  case loss =>
    have hsend : ¬ f.sends = read := by rwa [sends_of_content h5 he]
    have hlose : f.contentBit read = f.lose.takeBit read := by
      simp only [Frame.contentBit, ht]
      rw [if_neg hsend, if_pos ⟨hh, hc, hd⟩]
    rw [readBit_of_content h5 he, hlose]
    exact ⟨rfl, takeBit_of_body_keeps (f := f.lose) (.inl hh) rfl⟩
  case bit =>
    have hsend : ¬ f.sends = read := by rwa [sends_of_content h5 he]
    have hfail : f.contentBit read = f.fail .bit .form := by
      simp only [Frame.contentBit, ht]
      rw [if_neg hsend, if_neg]
      rintro ⟨hh, hc, hd⟩
      rcases hx with hx | hx | hx
      · exact absurd (hd.symm.trans hx) (by decide)
      · exact hx hh
      · omega
    rw [readBit_of_content h5 he, hfail, fail_of_transmitter ht]
  case form =>
    rw [readBit_of_plain h5, ← fail_eq]
    rcases he with he | he <;> simp only [Frame.plainBit, he, if_true]
  case receiver =>
    intro bits kind length illegal
    have hill : illegal ↔ legalAt bits bits.length = false := legalAt_eq_false.symm
    rw [readBit_of_content h5 (he.imp_right .inl), contentBit_of_receiver hr]
    dsimp only
    by_cases h : legalAt bits bits.length = false
    · rw [takeBit_of_illegal he hr h]
      exact ⟨rfl, rfl, rfl, fun _ => ⟨rfl, rfl⟩, fun hn => absurd (hill.mpr h) hn⟩
    · obtain ⟨e, n, ht⟩ := takeBit_of_legal (read := read) he fun hx => h hx.2
      rw [ht]
      exact ⟨rfl, rfl, rfl, fun hi => absurd (hill.mp hi) h, fun _ => ⟨hs, rfl⟩⟩
  case check =>
    intro agrees
    rw [readBit_of_content h5 (.inr (.inr he)), contentBit_of_receiver hr]
    dsimp only
    by_cases h : agrees
    · obtain ⟨run, ht⟩ := takeBit_of_agreeing he hc h
      rw [ht]
      exact ⟨rfl, rfl, fun hn => absurd h hn, fun _ => ⟨hs, rfl, rfl⟩⟩
    · rw [takeBit_of_disagreeing he hc hr h]
      exact ⟨rfl, rfl, fun _ => ⟨rfl, rfl⟩, fun hy => absurd hy h⟩

end Sys2Proof.Machine
end

section
/-! SUPPORT. The response window, bit by bit (R15 to R19, R115 to R117). -/

namespace Sys2Proof.Machine

/-! ## What a station drives in the window (R15) -/

theorem opposite_ne (l : Level) : opposite l ≠ l := by cases l <;> decide

section
variable {f : Frame}

theorem drive_of_receiver (hs : f.stopped = false) (hr : f.role = .receiver) : f.drive = f.answers := by
  simp only [Frame.drive, hs, hr, Bool.false_eq_true, if_false]

theorem drive_of_transmitter (hs : f.stopped = false) (hr : f.role = .transmitter) : f.drive = f.sends := by
  simp only [Frame.drive, hs, hr, Bool.false_eq_true, if_false]

theorem answers_of_passive (h : f.responder = .absent ∨ f.responder = .beaten ∨ f.responder = .placed) :
    f.answers = .recessive := by
  rcases h with h | h | h <;> simp only [Frame.answers, h]

theorem answers_of_sent (h : f.responder = .sent) : f.answers = opposite f.last := by
  simp only [Frame.answers, h]

theorem answers_at_start (h : f.responder = .competing) (he : f.elem = .start) : f.answers = .dominant := by
  simp only [Frame.answers, h, he]

theorem answers_at_response (h : f.responder = .competing) (he : f.elem = .response) :
    f.answers = if f.run = 5 then opposite f.last else f.responseBit := by
  simp only [Frame.answers, h, he, Frame.stuffDue, stuffAt, beq_iff_eq]

theorem sends_in_window (he : f.elem = .start ∨ f.elem = .response) : f.sends = .recessive := by
  rcases he with he | he <;> simp only [Frame.sends, he]

/-- In the window only a responder that competes, or that has just sent its byte, drives the line. -/
theorem drive_in_window (hs : f.stopped = false) (he : f.elem = .start ∨ f.elem = .response)
    (h : f.role = .transmitter ∨ f.responder = .absent ∨ f.responder = .beaten ∨ f.responder = .placed) :
    f.drive = .recessive := by
  cases hr : f.role with
  | transmitter => rw [drive_of_transmitter hs hr, sends_in_window he]
  | receiver =>
    rw [drive_of_receiver hs hr, answers_of_passive (h.resolve_left (by simp [hr]))]

end

/-! ## What a position's end makes of a responder (R15, R16, R115, R116) -/

section
variable {f : Frame}

theorem positionOver_of_sent (h : f.responder = .sent) :
    f.positionOver = ({ f with responder := .placed }, [.placed]) := by simp only [Frame.positionOver, h]

theorem positionOver_of_beaten (h : f.responder = .beaten) :
    f.positionOver = ({ f with responder := .competing }, []) := by simp only [Frame.positionOver, h]

theorem positionOver_of_idle (h : f.responder = .absent ∨ f.responder = .placed) :
    f.positionOver = (f, []) := by rcases h with h | h <;> simp only [Frame.positionOver, h]

theorem lastPositionOver_of_sent (h : f.responder = .sent) :
    f.lastPositionOver = ({ f with responder := .placed, run := 0 }, [.placed]) := by
  simp only [Frame.lastPositionOver, positionOver_of_sent h, Frame.windowClosed, List.append_nil]

theorem lastPositionOver_of_beaten (h : f.responder = .beaten) :
    f.lastPositionOver = ({ f with responder := .absent, run := 0 }, [.crowded]) := by
  simp only [Frame.lastPositionOver, positionOver_of_beaten h, Frame.windowClosed, List.nil_append]

theorem lastPositionOver_of_idle (h : f.responder = .absent ∨ f.responder = .placed) :
    f.lastPositionOver = ({ f with run := 0 }, []) := by
  rw [Frame.lastPositionOver, positionOver_of_idle h]
  rcases h with h | h <;> simp only [Frame.windowClosed, h, List.append_nil]

end

/-! ## A byte read whole (R15 to R18) -/

/-- The frame with its response byte in the list, and the sender's part changed by it. -/
def Frame.listed (f : Frame) (b : Byte) (e : Elem) : Frame := { f with
  elem := e, count := 0, responses := f.responses ++ [b], partialByte := []
  responder := if f.responder = .competing then .sent else f.responder }

section
variable {f : Frame} {b : Byte}

theorem byteRead_of_illegal (h : b.extractLsb' 0 6 = 0) : f.byteRead b = (f.fail .form .form, []) := if_pos h

variable (h : b.extractLsb' 0 6 ≠ 0)
include h

theorem byteRead_of_stuff (h5 : f.run = 5) :
    f.byteRead b = (f.listed b (if f.responses.length = 14 then .eof else .start), []) := by
  refine (if_neg h).trans ?_
  simp only [List.length_append, List.length_singleton, Config.windowPositions, Frame.stuffDue, stuffAt, h5,
    beq_self_eq_true, if_true, Nat.reduceEqDiff, Frame.enter, Frame.listed]
  split <;> rfl

theorem byteRead_of_more (h5 : f.run ≠ 5) (hn : f.responses.length ≠ 14) :
    f.byteRead b = (f.listed b .start).positionOver := by
  refine (if_neg h).trans ?_
  simp only [List.length_append, List.length_singleton, Config.windowPositions, Frame.stuffDue, stuffAt,
    beq_iff_eq, h5, if_false, Nat.reduceEqDiff, hn]
  rfl

theorem byteRead_of_last (h5 : f.run ≠ 5) (hn : f.responses.length = 14) :
    f.byteRead b = (f.listed b .eof).lastPositionOver := by
  refine (if_neg h).trans ?_
  simp only [List.length_append, List.length_singleton, Config.windowPositions, Frame.stuffDue, stuffAt,
    beq_iff_eq, h5, if_false, hn, if_true]
  rfl

end

/-! ## A bit of a response byte (R15, R18, R19) -/

/-- The frame with a response bit read, where the bit is no error: a responder that sent recessive and read
dominant gives way. -/
def Frame.withResponseBit (f : Frame) (read : Level) : Frame := { f with
  run := if f.run ≠ 0 ∧ f.last = read then f.run + 1 else 1
  last := read
  count := f.count + 1
  partialByte := f.partialByte ++ [read.bit]
  responder := if f.responder = .competing ∧ f.responseBit ≠ read then .beaten else f.responder }

section
variable {f : Frame} {read : Level}

theorem windowBit_of_overdriven (hr : f.responder = .competing) (ho : f.responseBit = .dominant)
    (hl : read = .recessive) : f.windowBit read = (f.fail .form .form, []) := if_pos ⟨hr, ho, hl⟩

variable (h : ¬ (f.responder = .competing ∧ f.responseBit = .dominant ∧ read = .recessive))
include h

theorem windowBit_of_bad_verdict (hc : f.count = 1) (hb : (f.partialByte ++ [read.bit]).head? = some true) :
    f.windowBit read = ((f.withResponseBit read).fail .form .form, []) := by
  refine (if_neg h).trans (if_pos ⟨?_, hb⟩)
  exact congrArg (· + 1) hc

theorem windowBit_of_early (hc : f.count < 7)
    (hb : f.count ≠ 1 ∨ (f.partialByte ++ [read.bit]).head? ≠ some true) :
    f.windowBit read = (f.withResponseBit read, []) := by
  refine (if_neg h).trans ((if_neg ?_).trans (if_neg ?_))
  · rintro ⟨hn, hx⟩
    have hn : f.count + 1 = 2 := hn
    exact hb.elim (fun hb => hb (by omega)) fun hb => hb hx
  · show f.count + 1 ≠ 8
    omega

theorem windowBit_of_last (hc : f.count = 7) : f.windowBit read
    = (f.withResponseBit read).byteRead (BitVec.ofNat 8 (natOf (f.partialByte ++ [read.bit]))) := by
  refine (if_neg h).trans ((if_neg ?_).trans (if_pos ?_))
  · rintro ⟨hn, -⟩
    have hn : f.count + 1 = 2 := hn
    omega
  · exact congrArg (· + 1) hc

end

section
variable {f : Frame} {read : Level}

theorem readBit_at_start_dominant (h5 : f.run ≠ 5) (he : f.elem = .start) : f.readBit .dominant
    = ({ f.counted .dominant with elem := .response, count := 0, partialByte := [] }, []) := by
  rw [readBit_of_plain h5]
  simp only [Frame.plainBit, he]
  rfl

theorem readBit_at_start_recessive (h5 : f.run ≠ 5) (he : f.elem = .start) : f.readBit .recessive
    = if f.responder = .competing then (f.fail .form .form, []) else ({ f with elem := .eof, count := 1, run := 0 }, [])
    := by
  rw [readBit_of_plain h5]
  simp only [Frame.plainBit, he]
  rfl

theorem readBit_at_response (h5 : f.run ≠ 5) (he : f.elem = .response) : f.readBit read = f.windowBit read := by
  rw [readBit_of_plain h5]
  simp only [Frame.plainBit, he]

end

/-! ## A stuff bit read right (R3, R17) -/

/-- The frame with a stuff bit read. -/
def Frame.withStuffBit (f : Frame) (read : Level) : Frame := { f with run := 1, last := read }

section
variable {f : Frame} {read : Level}

theorem stuffed_at_response (he : f.elem = .response) : f.stuffed read = (f.withStuffBit read, []) := by
  unfold Frame.stuffed
  split
  all_goals first | rfl | (rename_i h; exact nomatch he.symm.trans h)

theorem stuffed_at_start (he : f.elem = .start) : f.stuffed read = (f.withStuffBit read).positionOver := by
  unfold Frame.stuffed
  split
  all_goals first | rfl | (rename_i h; exact nomatch he.symm.trans h)

theorem stuffed_at_eof (he : f.elem = .eof) : f.stuffed read = (f.withStuffBit read).lastPositionOver := by
  unfold Frame.stuffed
  split
  all_goals first | rfl | (rename_i h; exact nomatch he.symm.trans h)

end

/-- Settles O47: the window's start bits, response bytes and stuff bits, each with what it makes of the
responder. -/
theorem responsePositionsAreReadBitByBit : Obligations.ResponsePositionsAreReadBitByBit := by
  refine ⟨fun f hs => ⟨fun hr hc => ⟨fun he => ?startBit, fun he h5 => ?ownBit, fun he h5 => ?ownStuff⟩,
    fun hr hx => ?sentStuff, drive_in_window hs⟩, fun f h5 he => ⟨?first, fun hr => ?closes, fun hr => ?missing⟩,
    fun f read h5 he => ?response, fun f read h5 hl => ?stuff⟩
  case startBit => rw [drive_of_receiver hs hr, answers_at_start hc he]
  case ownBit => rw [drive_of_receiver hs hr, answers_at_response hc he, if_neg h5, Frame.responseBit]
  case ownStuff =>
    rw [drive_of_receiver hs hr, answers_at_response hc he, if_pos h5]
    exact opposite_ne _
  case sentStuff =>
    rw [drive_of_receiver hs hr, answers_of_sent hx]
    exact opposite_ne _
  case first => exact readBit_at_start_dominant h5 he
  case closes => rw [readBit_at_start_recessive h5 he, if_neg hr]
  case missing => rw [readBit_at_start_recessive h5 he, if_pos hr, fail_eq]
  case response =>
    intro failed own bits next
    have hnext : f.withResponseBit read = next := rfl
    have hfail : failed f = f.fail .form .form := (fail_eq f .form .form).symm
    have hfailNext : failed next = next.fail .form .form := (fail_eq next .form .form).symm
    rw [readBit_at_response h5 he]
    refine ⟨fun hr ho hl => by rw [windowBit_of_overdriven hr ho hl, hfail], fun hok => ?_⟩
    have hclean : ¬ (f.responder = .competing ∧ f.responseBit = .dominant ∧ read = .recessive) := by
      rintro ⟨hr, ho, hl⟩
      rcases hok with h | h | h
      · exact h hr
      · exact absurd (ho.symm.trans h) (by decide)
      · exact absurd (hl.symm.trans h) (by decide)
    refine ⟨fun hc hb => by rw [windowBit_of_bad_verdict hclean hc hb, hnext, hfailNext],
      fun hc hb => by rw [windowBit_of_early hclean hc hb, hnext], fun hc => ?_⟩
    intro b read'
    rw [windowBit_of_last hclean hc, hnext]
    have hlisted (e : Elem) : next.listed b e
        = read' e next.run (if next.responder = .competing then .sent else next.responder) := rfl
    have hidle (e : Elem) (h : next.responder = .absent ∨ next.responder = .placed) :
        next.listed b e = read' e next.run next.responder := by
      rw [hlisted]
      rcases h with h | h <;> rw [h] <;> rfl
    refine ⟨fun hb => by rw [byteRead_of_illegal hb, hfailNext], fun hb h5 => ?_, fun hb h5 hn => ⟨fun hr => ?_,
      fun hr => ?_, fun hr => ?_⟩, fun hb h5 hn => ⟨fun hr => ?_, fun hr => ?_, fun hr => ?_⟩⟩
    · rw [byteRead_of_stuff hb h5, hlisted, h5]
    · rw [byteRead_of_more hb h5 hn, positionOver_of_sent (if_pos hr)]
      rfl
    · rw [byteRead_of_more hb h5 hn, positionOver_of_beaten (by rw [hlisted, hr]; rfl)]
      rfl
    · rw [byteRead_of_more hb h5 hn, hidle _ hr]
      exact positionOver_of_idle hr
    · rw [byteRead_of_last hb h5 hn, lastPositionOver_of_sent (if_pos hr)]
      rfl
    · rw [byteRead_of_last hb h5 hn, lastPositionOver_of_beaten (by rw [hlisted, hr]; rfl)]
      rfl
    · rw [byteRead_of_last hb h5 hn, hidle _ hr]
      exact lastPositionOver_of_idle hr
  case stuff =>
    intro past
    rw [readBit_of_stuff h5 hl]
    refine ⟨fun he => ?_, fun he hr => ?_, fun he hr => ?_, fun he hr => ?_, fun he hr => ?_, fun he hr => ?_,
      fun he hr => ?_⟩
    · exact stuffed_at_response he
    · rw [stuffed_at_start he]
      exact positionOver_of_sent hr
    · rw [stuffed_at_start he]
      exact positionOver_of_beaten hr
    · rw [stuffed_at_start he]
      exact positionOver_of_idle hr
    · rw [stuffed_at_eof he]
      exact lastPositionOver_of_sent hr
    · rw [stuffed_at_eof he]
      exact lastPositionOver_of_beaten hr
    · rw [stuffed_at_eof he]
      exact lastPositionOver_of_idle hr

end Sys2Proof.Machine
end

section
/-! SUPPORT. LEAVE (R27, R61, R109, R129): what it makes of each entry, and that no reaction can undo it. -/

namespace Sys2Proof.Machine

/-! ## Takings off the bus -/

/-- The link, the slots, the calls and the obligations stand. -/
structure State.SameOwners (s t : State) : Prop where
  link : t.lc = s.lc
  slots : t.outbox = s.outbox
  calls : t.cu = s.cu
  obligations : t.ou = s.ou

theorem State.SameOwners.refl (s : State) : s.SameOwners s := ⟨rfl, rfl, rfl, rfl⟩

theorem State.SameOwners.trans {s t u : State} (h : s.SameOwners t) (k : t.SameOwners u) : s.SameOwners u :=
  ⟨k.link.trans h.link, k.slots.trans h.slots, k.calls.trans h.calls, k.obligations.trans h.obligations⟩

/-- OFFLINE, with no choice held and no obligation open. -/
structure State.OffBus (s : State) : Prop where
  offline : s.lc.state = .offline
  unchosen : s.lc.choice = none
  unopened : ∀ o, (s.obl o).state ≠ .opened

theorem State.OffBus.of_same {s t : State} (h : s.OffBus) (hst : s.SameOwners t) : t.OffBus := by
  have hobl (o : Fin 8) : t.obl o = s.obl o := by rw [State.obl, hst.obligations]; rfl
  exact ⟨by rw [hst.link, h.offline], by rw [hst.link, h.unchosen], fun o => by rw [hobl]; exact h.unopened o⟩

theorem arbiter_of_offline {s : State} (h : s.lc.state = .offline) (hc : s.lc.choice = none) : s.arbiter = s := by
  have hm : s.mayChoose = false := not_mayChoose_of_state (by rw [h]; decide)
  rw [State.arbiter_of_may_not_choose hm, ← hc]
  rfl

theorem sameOwners_noteRefusal (s : State) (r : Fin 24) (x : ActionResult) : s.SameOwners (s.noteRefusal r x) := by
  cases x <;> exact ⟨rfl, rfl, rfl, rfl⟩

/-- Off the bus no action reaches the link, a slot, a call or an obligation. -/
theorem sameOwners_perform {s : State} (h : s.OffBus) (r : Fin 24) : s.SameOwners (s.perform r).state := by
  have hacts := acts_perform s r
  generalize (s.perform r).state = t at hacts
  cases hacts with
  | send i hs ho => exact absurd h.offline ho
  | finish o status ho => exact absurd ho (h.unopened o)
  | holdPulse parameter hs => exact absurd (h.offline.symm.trans hs) (by decide)
  | timerStart t parameter =>
    unfold State.actTimerStart
    split <;> exact ⟨rfl, rfl, rfl, rfl⟩
  | trainStart g => rw [startTrain_eq]; exact ⟨rfl, rfl, rfl, rfl⟩
  | trainStop g => rcases stopTrain_frame s g with e | ⟨x, e⟩ <;> rw [e] <;> exact ⟨rfl, rfl, rfl, rfl⟩
  | arm q => rcases s.armReaction_eq q with e | ⟨x, e⟩ <;> rw [e] <;> exact ⟨rfl, rfl, rfl, rfl⟩
  | disarm q => rcases s.disarmReaction_eq q with e | ⟨x, e⟩ <;> rw [e] <;> exact ⟨rfl, rfl, rfl, rfl⟩
  | _ => exact ⟨rfl, rfl, rfl, rfl⟩

theorem sameOwners_setRun (s : State) (r : Fin 24) (x : ReactionRun) : s.SameOwners (s.setRun r x) :=
  ⟨rfl, rfl, rfl, rfl⟩

theorem sameOwners_fire {s : State} (h : s.OffBus) (r : Fin 24) : s.SameOwners (s.fire r).state := by
  unfold State.fire
  exact ((sameOwners_perform h r).trans (sameOwners_setRun _ r _)).trans (sameOwners_noteRefusal _ r _)

theorem same_countEdge (s : State) (c : Fin 2) (k : Fin 8) (e : Edge) :
    s.SameBesidesActions (s.countEdge c k e).1 := by
  unfold State.countEdge
  dsimp only
  split
  · exact same_setCounter s c _ ⟨rfl, rfl, rfl⟩
  · exact .refl s

theorem sameOwners_countEdge (s : State) (c : Fin 2) (k : Fin 8) (e : Edge) : s.SameOwners (s.countEdge c k e).1 := by
  unfold State.countEdge
  dsimp only
  split <;> exact ⟨rfl, rfl, rfl, rfl⟩

/-- Off the bus takings leave the link and every entry as they stand, and of the flags reach REACT_LIMIT and
REACT_NOTICE alone. -/
theorem takesKept_offBus {s : State} (h : s.OffBus) : TakesKept fun t => s.SameBesidesActions t ∧ s.SameOwners t where
  free t n ht := ⟨ht.1.trans (same_setFreeCount t n), ht.2.trans ⟨rfl, rfl, rfl, rfl⟩⟩
  fire t r _ _ ht := ⟨ht.1.trans (same_fire t r), ht.2.trans (sameOwners_fire (h.of_same ht.2) r)⟩
  suppress t r o root ht := ⟨ht.1.trans (same_suppress t r o root), ht.2.trans ⟨rfl, rfl, rfl, rfl⟩⟩
  choose t ht := by rw [arbiter_of_offline (h.of_same ht.2).offline (h.of_same ht.2).unchosen]; exact ht
  count t c k e ht := ⟨ht.1.trans (same_countEdge t c k e), ht.2.trans (sameOwners_countEdge t c k e)⟩

/-! ## Folds over the entries of a table -/

section
variable {α β γ : Type} {f : β → α → β} {Q : β → Prop}

/-- What one entry alone changes is, at the end of a fold, what that entry's turn made of it. -/
theorem foldl_at [DecidableEq α] (v : β → γ) {i : α} (keep : ∀ b j, Q b → Q (f b j))
    (other : ∀ b j, Q b → j ≠ i → v (f b j) = v b) (l : List α) (hl : l.Nodup) (hi : i ∈ l) (b : β) (hb : Q b) :
    ∃ c, Q c ∧ v c = v b ∧ v (l.foldl f b) = v (f c i) := by
  induction l generalizing b with
  | nil => exact absurd hi List.not_mem_nil
  | cons j l ih =>
    obtain ⟨hj, hl⟩ := List.nodup_cons.mp hl
    by_cases hij : i = j
    · subst hij
      refine ⟨b, hb, rfl, ?_⟩
      have rest : ∀ (l : List α) (c : β), Q c → i ∉ l → v (l.foldl f c) = v c := by
        intro l
        induction l with
        | nil => exact fun _ _ _ => rfl
        | cons k l ih =>
          intro c hc hn
          rw [List.foldl_cons, ih _ (keep c k hc) fun h => hn (List.mem_cons_of_mem _ h)]
          exact other c k hc fun h => hn (h ▸ List.mem_cons_self)
      exact rest l _ (keep b i hb) hj
    · obtain ⟨c, hc, hv, hend⟩ := ih hl ((List.mem_cons.mp hi).resolve_left hij) _ (keep b j hb)
      exact ⟨c, hc, hv.trans (other b j hb fun h => hij h.symm), hend⟩

/-- A mark that any entry's turn may set is set at the end of a fold where one of them sets it. -/
theorem foldl_any (v : β → Bool) (a : β → α → Bool) (keep : ∀ b j, Q b → Q (f b j))
    (turn : ∀ b j, Q b → v (f b j) = (v b || a b j)) (other : ∀ b i j, Q b → j ≠ i → a (f b i) j = a b j)
    (l : List α) (hl : l.Nodup) (b : β) (hb : Q b) : v (l.foldl f b) = (v b || l.any (a b)) := by
  induction l generalizing b with
  | nil => simp
  | cons i l ih =>
    obtain ⟨hi, hl⟩ := List.nodup_cons.mp hl
    have hsame : l.any (a (f b i)) = l.any (a b) :=
      Bool.eq_iff_iff.mpr <| by
        simp only [List.any_eq_true]
        exact exists_congr fun j => and_congr_right fun hj => by rw [other b i j hb fun h => hi (h ▸ hj)]
    rw [List.foldl_cons, ih hl _ (keep b i hb), turn b i hb, hsame, List.any_cons, Bool.or_assoc]

end

/-- A sweep of a table of eight: each turn changes its own entry, and where the entry was one of those concerned
sets the flag and the entry's mark. -/
structure Sweep {ε : Type} (f : State → Fin 8 → State) (Q : State → Prop) (entry : State → Fin 8 → ε)
    (left : ε → ε) (concerned : ε → Bool) (flag : Flag) (marks : State → BitVec 8) : Prop where
  keep : ∀ s i, Q s → Q (f s i)
  entry_self : ∀ s i, Q s → entry (f s i) i = left (entry s i)
  entry_other : ∀ s i j, Q s → i ≠ j → entry (f s i) j = entry s j
  flags : ∀ s i g, Q s → (f s i).flag g = (s.flag g || (decide (g = flag) && concerned (entry s i)))
  marks : ∀ s i j, Q s → (marks (f s i)).getLsbD j.val = ((marks s).getLsbD j.val || (decide (i = j)
    && concerned (entry s i)))

section
variable {ε : Type} {f : State → Fin 8 → State} {Q : State → Prop} {entry : State → Fin 8 → ε} {left : ε → ε}
  {concerned : ε → Bool} {flag : Flag} {marks : State → BitVec 8}
  (W : Sweep f Q entry left concerned flag marks) {s : State} (hs : Q s)
include W hs

theorem Sweep.entry_foldl (i : Fin 8) : entry ((List.finRange 8).foldl f s) i = left (entry s i) := by
  obtain ⟨c, hc, hv, hend⟩ := foldl_at (fun t => entry t i) W.keep (fun b j hb hj => W.entry_other b j i hb hj)
    _ (List.nodup_finRange 8) (List.mem_finRange i) s hs
  rw [hend, W.entry_self c i hc, hv]

theorem Sweep.marks_foldl (i : Fin 8) : (marks ((List.finRange 8).foldl f s)).getLsbD i.val
    = ((marks s).getLsbD i.val || concerned (entry s i)) := by
  obtain ⟨c, hc, hv, hend⟩ := foldl_at (fun t => (entry t i, (marks t).getLsbD i.val)) W.keep
    (fun b j hb hj => by rw [W.entry_other b j i hb hj, W.marks b j i hb, decide_eq_false hj]; simp)
    _ (List.nodup_finRange 8) (List.mem_finRange i) s hs
  obtain ⟨hentry, hmark⟩ := Prod.mk.inj hv
  refine (Prod.mk.inj hend).2.trans ?_
  rw [W.marks c i i hc, decide_eq_true rfl, Bool.true_and, hentry, hmark]

theorem Sweep.flag_foldl : ((List.finRange 8).foldl f s).flag flag = true
    ↔ s.flag flag = true ∨ ∃ i, concerned (entry s i) = true := by
  rw [foldl_any (fun t => t.flag flag) (fun t i => concerned (entry t i)) W.keep
    (fun b j hb => by rw [W.flags b j flag hb, decide_eq_true rfl, Bool.true_and])
    (fun b i j hb hj => by rw [W.entry_other b i j hb hj.symm]) _ (List.nodup_finRange 8) s hs]
  simp

theorem Sweep.other_flag_foldl {g : Flag} (hg : g ≠ flag) :
    ((List.finRange 8).foldl f s).flag g = s.flag g := by
  refine (foldl_keeps (P := fun t => Q t ∧ t.flag g = s.flag g) f (fun t i ht => ⟨W.keep t i ht.1, ?_⟩) _ s
    ⟨hs, rfl⟩).2
  rw [W.flags t i g ht.1, decide_eq_false hg, Bool.false_and, Bool.or_false, ht.2]

end

end Sys2Proof.Machine
end

section
/-! SUPPORT. The slots, the calls and the obligations at LEAVE (R61, R109, R129). -/

namespace Sys2Proof.Machine

/-! ## A slot at LEAVE (R61) -/

/-- A slot in PENDING or SENDING. -/
def Slot.active (x : Slot) : Bool := x.state == .pending || x.state == .sending

/-- A slot after LEAVE; an active CALL slot is bound to no entry any more. -/
def Slot.left (x : Slot) : Slot :=
  if x.active then
    { x with
      state := .aborted
      rerun := false
      abort := false
      call := match x.kind with
        | .call => none
        | .cue => x.call }
  else x

theorem Slot.active_iff {x : Slot} : x.active = true ↔ x.state = .pending ∨ x.state = .sending := by
  simp [Slot.active]

/-- The state after one slot's turn. -/
def State.leavingSlot (s : State) (i : Fin 8) : State := (leaveSlot (s, []) i).1

theorem foldl_leaveSlot (l : List (Fin 8)) (p : State × List Occurrence) :
    (l.foldl leaveSlot p).1 = l.foldl State.leavingSlot p.1 := by
  induction l generalizing p with
  | nil => rfl
  | cons i l ih =>
    rw [List.foldl_cons, List.foldl_cons, ih]
    congr 1
    unfold State.leavingSlot leaveSlot
    dsimp only
    split <;> rfl

theorem leavingSlot_of_inactive {s : State} {i : Fin 8} (h : (s.slot i).active = false) : s.leavingSlot i = s := by
  unfold State.leavingSlot leaveSlot
  dsimp only
  split
  next hs => simp [Slot.active, hs] at h
  next hs => simp [Slot.active, hs] at h
  all_goals rfl

theorem leavingSlot_of_active {s : State} {i : Fin 8} (h : (s.slot i).active = true) : s.leavingSlot i
    = ((s.setSlot i { s.slot i with rerun := false, abort := false }).arriveDone i .aborted []).1 := by
  unfold State.leavingSlot leaveSlot
  dsimp only
  split
  next hs => rfl
  next hs => rfl
  all_goals simp [Slot.active, *] at h

theorem Slot.left_of_inactive {x : Slot} (h : x.active = false) : x.left = x := by simp [Slot.left, h]

theorem Slot.left_of_active {x : Slot} (h : x.active = true) : x.left = { x with
    state := .aborted, rerun := false, abort := false, call := if x.kind = .call then none else x.call } := by
  rw [Slot.left, if_pos h]
  cases x.kind <;> rfl

/-- A slot with no call entry is done. -/
theorem leavingSlot_of_unbound {s : State} {i : Fin 8} (h : (s.slot i).active = true)
    (hb : (s.slot i).kind = .cue ∨ (s.slot i).call = none) :
    s.leavingSlot i = s.arrived i (s.slot i).left := by
  have hend (t : State) (ht : t.slot i = { s.slot i with state := .aborted, rerun := false, abort := false }) :
      t.endBinding i .aborted [] = (t, []) := by
    unfold State.endBinding
    rw [ht]
    split
    next k g hk hc =>
      rcases hb with hb | hb
      · exact absurd (hb.symm.trans hk) (by decide)
      · exact absurd (hb.symm.trans hc) (by simp)
    · rfl
  have hcall : (if (s.slot i).kind = .call then none else (s.slot i).call) = (s.slot i).call := by
    rcases hb with hb | hb <;> simp [hb]
  rw [leavingSlot_of_active h, arriveDone_eq, hend _ (by simp; rfl), applyRerun_of_unmarked (by simp),
    Slot.left_of_active h, hcall, setSlot_then_arrived, State.slot_setSlot_self]
  rfl

/-- A bound slot is done, and its entry is let go. -/
theorem leavingSlot_of_bound {s : State} {i k : Fin 8} {g : BitVec 3} (h : (s.slot i).active = true)
    (hk : (s.slot i).kind = .call) (hc : (s.slot i).call = some (k, g)) : s.leavingSlot i
      = (s.setCall k (CallEntry.freeWith (s.call k).generation)).arrived i (s.slot i).left := by
  rw [leavingSlot_of_active h, arriveDone_of_released (k := k) (g := g) (by simpa using hk) (by simpa using hc)
    (by decide), applyRerun_of_unmarked (by simp), Slot.left_of_active h, if_pos hk, State.slot_setSlot_self]
  exact setSlot_then_arrived (s.setCall k (CallEntry.freeWith (s.call k).generation)) ..

/-- An active slot's turn: the slot is done, and where it was bound its entry is let go. -/
theorem leavingSlot_cases {s : State} {i : Fin 8} (h : (s.slot i).active = true) :
    (s.leavingSlot i = s.arrived i (s.slot i).left ∧ ∀ k g, (s.slot i).kind = .call → (s.slot i).call ≠ some (k, g))
    ∨ ∃ k g, (s.slot i).kind = .call ∧ (s.slot i).call = some (k, g) ∧ s.leavingSlot i
      = (s.setCall k (CallEntry.freeWith (s.call k).generation)).arrived i (s.slot i).left := by
  cases hk : (s.slot i).kind with
  | cue => exact .inl ⟨leavingSlot_of_unbound h (.inl hk), nofun⟩
  | call =>
    cases hc : (s.slot i).call with
    | none => exact .inl ⟨leavingSlot_of_unbound h (.inr hc), nofun⟩
    | some b => exact .inr ⟨b.1, b.2, rfl, rfl, leavingSlot_of_bound h hk hc⟩

theorem flag_arrived (s : State) (i : Fin 8) (x : Slot) (g : Flag) :
    (s.arrived i x).flag g = (s.flag g || decide (g = .slotDone)) :=
  (flag_setFlag (s.setSlot i x) .slotDone g).trans (congrArg (s.flag g || ·) (decide_eq_decide.mpr eq_comm))

theorem slotsDone_arrived (s : State) (i : Fin 8) (x : Slot) (j : Fin 8) :
    (s.arrived i x).eu.slotsDone.getLsbD j.val = (s.eu.slotsDone.getLsbD j.val || decide (i = j)) := by
  refine (withBit_getLsbD _ i.val j.val i.isLt).trans ?_
  simp [Fin.val_inj, eq_comm]

/-- The turn of each slot (R61). -/
theorem sweep_slots : Sweep State.leavingSlot (fun _ => True) State.slot Slot.left Slot.active .slotDone
    (fun s => s.eu.slotsDone) where
  keep _ _ h := h
  entry_self s i _ := by
    cases h : (s.slot i).active with
    | false => rw [leavingSlot_of_inactive h, Slot.left_of_inactive h]
    | true =>
      rcases leavingSlot_cases h with ⟨e, -⟩ | ⟨k, g, -, -, e⟩ <;> rw [e] <;> exact slot_arrived_self ..
  entry_other s i j _ hij := by
    cases h : (s.slot i).active with
    | false => rw [leavingSlot_of_inactive h]
    | true =>
      rcases leavingSlot_cases h with ⟨e, -⟩ | ⟨k, g, -, -, e⟩ <;> rw [e] <;>
        exact (State.slot_setSlot ..).trans (if_neg hij.symm)
  flags s i g _ := by
    cases h : (s.slot i).active with
    | false => rw [leavingSlot_of_inactive h, Bool.and_false, Bool.or_false]
    | true =>
      rw [Bool.and_true]
      rcases leavingSlot_cases h with ⟨e, -⟩ | ⟨k, g, -, -, e⟩ <;> rw [e] <;> exact flag_arrived ..
  marks s i j _ := by
    cases h : (s.slot i).active with
    | false => rw [leavingSlot_of_inactive h, Bool.and_false, Bool.or_false]
    | true =>
      rw [Bool.and_true]
      rcases leavingSlot_cases h with ⟨e, -⟩ | ⟨k, g, -, -, e⟩ <;> rw [e] <;> exact slotsDone_arrived ..

theorem Slot.active_left (x : Slot) : x.left.active = false := by
  cases h : x.active with
  | false => rw [Slot.left_of_inactive h, h]
  | true => rw [Slot.left_of_active h]; rfl

/-- The slots' turns reach the slots, call entries, their flag and their marks alone. -/
structure State.SlotsLeft (s t : State) : Prop where
  rest : t = { s with outbox := t.outbox, cu := t.cu, eu := t.eu }
  events : t.eu = { s.eu with flags := t.eu.flags, slotsDone := t.eu.slotsDone }

theorem slotsLeft_arrived {s t : State} (h : s.SlotsLeft t) (c : Vector CallEntry 8) (i : Fin 8) (x : Slot) :
    s.SlotsLeft (State.arrived { t with cu := c } i x) := by
  obtain ⟨hr, he⟩ := h
  rw [hr]
  exact ⟨rfl, by rw [he]; rfl⟩

theorem slotsLeft_leavingSlot {s t : State} (h : s.SlotsLeft t) (i : Fin 8) : s.SlotsLeft (t.leavingSlot i) := by
  cases ha : (t.slot i).active with
  | false => rwa [leavingSlot_of_inactive ha]
  | true =>
    rcases leavingSlot_cases ha with ⟨e, -⟩ | ⟨k, g, -, -, e⟩ <;> rw [e]
    · exact slotsLeft_arrived h t.cu i _
    · exact slotsLeft_arrived h _ i _

theorem slotsLeft_foldl (s : State) (l : List (Fin 8)) : s.SlotsLeft (l.foldl State.leavingSlot s) :=
  foldl_keeps (P := fun t => s.SlotsLeft t) _ (fun _ i ht => slotsLeft_leavingSlot ht i) l s ⟨rfl, rfl⟩

/-! ## Call entries at LEAVE (R48, R61, R109) -/

/-- In a sweep over the slots of `s` a slot still stands, or is active no more. -/
def State.slotsAhead (s t : State) : Prop := ∀ i, t.slot i = s.slot i ∨ (t.slot i).active = false

theorem slotsAhead_leavingSlot {s t : State} (h : s.slotsAhead t) (i : Fin 8) : s.slotsAhead (t.leavingSlot i) := by
  intro j
  by_cases hij : i = j
  · subst hij
    exact .inr (by rw [sweep_slots.entry_self t i trivial, Slot.active_left])
  · rw [sweep_slots.entry_other t i j trivial hij]
    exact h j

/-- A slot's turn lets go of an entry only where the binding is of that slot and that entry (R48). -/
theorem call_leavingSlot {s t : State} (hb : s.BindingInv) (h : s.slotsAhead t) (i k : Fin 8) :
    (t.leavingSlot i).call k = t.call k ∨ (s.call k).state = .reserved ∧ (s.call k).slot = some i := by
  cases ha : (t.slot i).active with
  | false => exact .inl (by rw [leavingSlot_of_inactive ha])
  | true =>
    rcases leavingSlot_cases ha with ⟨e, -⟩ | ⟨q, g, hk, hc, e⟩ <;> rw [e, call_arrived]
    · exact .inl rfl
    · by_cases hkq : k = q
      · subst hkq
        have hs : t.slot i = s.slot i := (h i).resolve_right (by simp [ha])
        rw [hs] at hk hc ha
        obtain ⟨m, hm, hr, hsl⟩ := hb.slot_bound i ⟨hk, Slot.active_iff.mp ha⟩
        obtain rfl : m = k := (Prod.mk.inj (Option.some.inj (hm.symm.trans hc))).1
        exact .inr ⟨hr, hsl⟩
      · exact .inl ((State.call_setCall ..).trans (if_neg hkq))

theorem call_foldl_leavingSlot_of_reserved {s : State} (hb : s.BindingInv) {k : Fin 8}
    (hk : (s.call k).state = .reserved) :
    ((List.finRange 8).foldl State.leavingSlot s).call k = CallEntry.freeWith (s.call k).generation := by
  obtain ⟨i, hsl, hbinds, hcall⟩ := hb.entry_bound k hk
  obtain ⟨c, -, hv, hend⟩ := foldl_at (Q := s.slotsAhead) (fun t => (t.slot i, t.call k))
    (fun t j ht => slotsAhead_leavingSlot ht j)
    (fun t j ht hj => by
      rw [sweep_slots.entry_other t j i trivial hj, (call_leavingSlot hb ht j k).resolve_right fun h =>
        hj (Option.some.inj (h.2.symm.trans hsl))])
    _ (List.nodup_finRange 8) (List.mem_finRange i) s fun _ => .inl rfl
  obtain ⟨hslot, hentry⟩ := Prod.mk.inj hv
  refine (Prod.mk.inj hend).2.trans ?_
  rw [leavingSlot_of_bound (k := k) (g := (s.call k).generation) (by rw [hslot]; exact Slot.active_iff.mpr hbinds.2)
    (by rw [hslot]; exact hbinds.1) (by rw [hslot]; exact hcall), call_arrived, State.call_setCall_self, hentry]

theorem call_foldl_leavingSlot_of_not_reserved {s : State} (hb : s.BindingInv) {k : Fin 8}
    (hk : (s.call k).state ≠ .reserved) : ((List.finRange 8).foldl State.leavingSlot s).call k = s.call k := by
  refine (foldl_keeps (P := fun t => s.slotsAhead t ∧ t.call k = s.call k) _ (fun t i ht => ?_) _ s
    ⟨fun _ => .inl rfl, rfl⟩).2
  exact ⟨slotsAhead_leavingSlot ht.1 i,
    ((call_leavingSlot hb ht.1 i k).resolve_right fun h => hk h.1).trans ht.2⟩

end Sys2Proof.Machine
end

section
/-! SUPPORT. Calls and obligations at LEAVE (R109, R129), and LEAVE as a whole (R27). -/

namespace Sys2Proof.Machine

/-! ## Calls at LEAVE (R109) -/

/-- A call that LEAVE abandons. -/
def CallEntry.abandonable (e : CallEntry) : Bool := e.state == .opened || e.state == .withdrawing

/-- A call entry after LEAVE. -/
def CallEntry.left (now : Stamp) (e : CallEntry) : CallEntry :=
  if e.abandonable then
    { e with
      state := .settled
      outcome := some .abandoned
      settledAt := now
      withdrawPending := false
      expiring := false
      outstanding := []
      unanswered := insertStations e.outstanding e.unanswered }
  else e

theorem CallEntry.abandonable_iff {e : CallEntry} :
    e.abandonable = true ↔ e.state = .opened ∨ e.state = .withdrawing := by simp [CallEntry.abandonable]

/-- The state after one call's turn. -/
def State.leavingCall (s : State) (k : Fin 8) : State := (leaveCall (s, []) k).1

theorem foldl_leaveCall (l : List (Fin 8)) (p : State × List Occurrence) :
    (l.foldl leaveCall p).1 = l.foldl State.leavingCall p.1 := by
  induction l generalizing p with
  | nil => rfl
  | cons i l ih =>
    rw [List.foldl_cons, List.foldl_cons, ih]
    congr 1
    unfold State.leavingCall leaveCall
    dsimp only
    split <;> rfl

/-- The station is off the bus, with no choice held, at this time. -/
structure State.Leaving (n : Stamp) (s : State) : Prop where
  offline : s.lc.state = .offline
  unchosen : s.lc.choice = none
  time : s.now = n

theorem leavingCall_of_other {s : State} {k : Fin 8} (h : (s.call k).abandonable = false) : s.leavingCall k = s := by
  unfold State.leavingCall leaveCall
  dsimp only
  split
  next hs => simp [CallEntry.abandonable, hs] at h
  next hs => simp [CallEntry.abandonable, hs] at h
  all_goals rfl

theorem leavingCall_of_abandonable {n : Stamp} {s : State} (hl : s.Leaving n) {k : Fin 8}
    (h : (s.call k).abandonable = true) : s.leavingCall k
      = ((s.setCall k ((s.call k).left n)).setFlag .callSettled).addCallSettled k := by
  have hrun : s.leavingCall k = s.settleCall k .abandoned := by
    unfold State.leavingCall leaveCall
    dsimp only
    split
    next hs => rfl
    next hs => rfl
    all_goals simp [CallEntry.abandonable, *] at h
  rw [hrun, settleCall_written, CallEntry.left, if_pos h, ← hl.time]
  exact arbiter_of_offline hl.offline hl.unchosen

theorem leaving_leavingCall {n : Stamp} {s : State} (hl : s.Leaving n) (k : Fin 8) : (s.leavingCall k).Leaving n := by
  cases h : (s.call k).abandonable with
  | false => rwa [leavingCall_of_other h]
  | true =>
    rw [leavingCall_of_abandonable hl h]
    exact ⟨hl.offline, hl.unchosen, hl.time⟩

/-- The turn of each call (R109). -/
theorem sweep_calls (n : Stamp) : Sweep State.leavingCall (State.Leaving n) State.call (CallEntry.left n)
    CallEntry.abandonable .callSettled (fun s => s.eu.callsSettled) where
  keep s k h := leaving_leavingCall h k
  entry_self s k hl := by
    cases h : (s.call k).abandonable with
    | false => rw [leavingCall_of_other h, CallEntry.left, h]; rfl
    | true =>
      rw [leavingCall_of_abandonable hl h]
      exact State.call_setCall_self ..
  entry_other s k j hl hkj := by
    cases h : (s.call k).abandonable with
    | false => rw [leavingCall_of_other h]
    | true =>
      rw [leavingCall_of_abandonable hl h]
      exact (State.call_setCall ..).trans (if_neg hkj.symm)
  flags s k g hl := by
    cases h : (s.call k).abandonable with
    | false => rw [leavingCall_of_other h, Bool.and_false, Bool.or_false]
    | true =>
      rw [leavingCall_of_abandonable hl h, Bool.and_true]
      exact (flag_setFlag (s.setCall k _) .callSettled g).trans
        (congrArg (s.flag g || ·) (decide_eq_decide.mpr eq_comm))
  marks s k j hl := by
    cases h : (s.call k).abandonable with
    | false => rw [leavingCall_of_other h, Bool.and_false, Bool.or_false]
    | true =>
      rw [leavingCall_of_abandonable hl h, Bool.and_true]
      exact (withBit_getLsbD _ k.val j.val k.isLt).trans (by simp [Fin.val_inj, eq_comm])

/-- The calls' turns reach the call entries, their flag and their marks alone. -/
structure State.CallsLeft (s t : State) : Prop where
  rest : t = { s with cu := t.cu, eu := t.eu }
  events : t.eu = { s.eu with flags := t.eu.flags, callsSettled := t.eu.callsSettled }

theorem callsLeft_foldl {n : Stamp} {s : State} (hl : s.Leaving n) (l : List (Fin 8)) :
    s.CallsLeft (l.foldl State.leavingCall s) := by
  refine (foldl_keeps (P := fun t => t.Leaving n ∧ s.CallsLeft t) _ (fun t k ht => ⟨leaving_leavingCall ht.1 k, ?_⟩)
    l s ⟨hl, rfl, rfl⟩).2
  cases h : (t.call k).abandonable with
  | false => rw [leavingCall_of_other h]; exact ht.2
  | true =>
    obtain ⟨hr, he⟩ := ht.2
    rw [leavingCall_of_abandonable ht.1 h, hr]
    exact ⟨rfl, by rw [he]; rfl⟩

/-! ## Obligations at LEAVE (R129) -/

/-- An obligation entry after LEAVE. -/
def Obligation.left (x : Obligation) : Obligation := if x.state = .free then x else .free

/-- An entry that LEAVE frees. -/
def Obligation.held (x : Obligation) : Bool := x.state != .free

theorem leaveObl_of_free {s : State} {o : Fin 8} (h : (s.obl o).held = false) : leaveObl s o = s := by
  have hs : (s.obl o).state = .free := by simpa [Obligation.held] using h
  simp only [leaveObl, hs]

theorem leaveObl_of_held {s : State} {o : Fin 8} (h : (s.obl o).held = true) :
    leaveObl s o = (s.setObl o Obligation.free).noteOblChanged o := by
  have hs : (s.obl o).state ≠ .free := by simpa [Obligation.held] using h
  unfold leaveObl
  split
  · contradiction
  · rfl

/-- The turn of each obligation (R129). -/
theorem sweep_obligations : Sweep leaveObl (fun _ => True) State.obl Obligation.left Obligation.held .oblNote
    (fun s => s.eu.oblsChanged) where
  keep _ _ h := h
  entry_self s o _ := by
    cases h : (s.obl o).held with
    | false =>
      rw [leaveObl_of_free h, Obligation.left, if_pos (by simpa [Obligation.held] using h)]
    | true =>
      rw [leaveObl_of_held h, Obligation.left, if_neg (by simpa [Obligation.held] using h)]
      exact State.obl_setObl_self ..
  entry_other s o j _ hoj := by
    cases h : (s.obl o).held with
    | false => rw [leaveObl_of_free h]
    | true =>
      rw [leaveObl_of_held h]
      exact (State.obl_setObl ..).trans (if_neg hoj.symm)
  flags s o g _ := by
    cases h : (s.obl o).held with
    | false => rw [leaveObl_of_free h, Bool.and_false, Bool.or_false]
    | true =>
      rw [leaveObl_of_held h, Bool.and_true]
      exact (flag_setFlag ((s.setObl o Obligation.free).addOblChanged o) .oblNote g).trans
        (congrArg (s.flag g || ·) (decide_eq_decide.mpr eq_comm))
  marks s o j _ := by
    cases h : (s.obl o).held with
    | false => rw [leaveObl_of_free h, Bool.and_false, Bool.or_false]
    | true =>
      rw [leaveObl_of_held h, Bool.and_true]
      exact (withBit_getLsbD _ o.val j.val o.isLt).trans (by simp [Fin.val_inj, eq_comm])

/-- The obligations' turns reach the entries, their flag and their marks alone. -/
structure State.OblsLeft (s t : State) : Prop where
  rest : t = { s with ou := { s.ou with entries := t.ou.entries }, eu := t.eu }
  events : t.eu = { s.eu with flags := t.eu.flags, oblsChanged := t.eu.oblsChanged }

theorem oblsLeft_foldl (s : State) (l : List (Fin 8)) : s.OblsLeft (l.foldl leaveObl s) := by
  refine foldl_keeps (P := fun t => s.OblsLeft t) _ (fun t o ht => ?_) l s ⟨rfl, rfl⟩
  cases h : (t.obl o).held with
  | false => rw [leaveObl_of_free h]; exact ht
  | true =>
    obtain ⟨hr, he⟩ := ht
    rw [leaveObl_of_held h, hr]
    exact ⟨rfl, by rw [he]; rfl⟩

/-! ## LEAVE as a whole (R27) -/

section
variable (s : State)

/-- The state after the slots' turns. -/
def State.leftSlots : State := (List.finRange 8).foldl State.leavingSlot (s.setLc s.lc.left)

/-- The state after the calls' turns. -/
def State.leftCalls : State := (List.finRange 8).foldl State.leavingCall s.leftSlots

/-- The state after the obligations' turns. -/
def State.leftObls : State := (List.finRange 8).foldl leaveObl s.leftCalls

/-- The state after LEAVE, before its reply and the takings. -/
def State.leftAll : State := s.leftObls.setVerdict none

theorem takeLeave_state (hs : s.lc.state ≠ .config) (ho : s.lc.state ≠ .offline) :
    (takeLeave s).state = s.leftAll := by
  rw [takeLeave_of_joined hs ho]
  show ((List.finRange 8).foldl leaveObl ((List.finRange 8).foldl leaveCall _).1).setVerdict none = _
  rw [foldl_leaveCall, foldl_leaveSlot]
  rfl

theorem slotsLeft_leftSlots : (s.setLc s.lc.left).SlotsLeft s.leftSlots := slotsLeft_foldl _ _

end

section
variable {s t u v : State}

theorem State.SlotsLeft.leaving (h : s.SlotsLeft t) {n : Stamp} (hl : s.Leaving n) : t.Leaving n := by
  obtain ⟨hr, -⟩ := h
  rw [hr]
  exact ⟨hl.offline, hl.unchosen, hl.time⟩

theorem State.SlotsLeft.obl (h : s.SlotsLeft t) (o : Fin 8) : t.obl o = s.obl o := by
  obtain ⟨hr, -⟩ := h
  rw [hr]
  rfl

theorem State.CallsLeft.slot (h : s.CallsLeft t) (i : Fin 8) : t.slot i = s.slot i := by
  obtain ⟨hr, -⟩ := h
  rw [hr]
  rfl

theorem State.CallsLeft.obl (h : s.CallsLeft t) (o : Fin 8) : t.obl o = s.obl o := by
  obtain ⟨hr, -⟩ := h
  rw [hr]
  rfl

theorem State.OblsLeft.slot (h : s.OblsLeft t) (i : Fin 8) : t.slot i = s.slot i := by
  obtain ⟨hr, -⟩ := h
  rw [hr]
  rfl

theorem State.OblsLeft.call (h : s.OblsLeft t) (k : Fin 8) : t.call k = s.call k := by
  obtain ⟨hr, -⟩ := h
  rw [hr]
  rfl

theorem State.OblsLeft.rest_all (h₁ : s.SlotsLeft t) (h₂ : t.CallsLeft u) (h₃ : u.OblsLeft v) :
    v.setVerdict none = { s with
      outbox := v.outbox
      cu := v.cu
      ou := { entries := v.ou.entries, verdict := none }
      eu := v.eu } := by
  obtain ⟨h₁, -⟩ := h₁
  obtain ⟨h₂, -⟩ := h₂
  obtain ⟨h₃, -⟩ := h₃
  rw [h₃, h₂, h₁]
  rfl

theorem State.OblsLeft.events_all (h₁ : s.SlotsLeft t) (h₂ : t.CallsLeft u) (h₃ : u.OblsLeft v) :
    v.eu.slotsDone = t.eu.slotsDone ∧ v.eu.callsSettled = u.eu.callsSettled ∧ u.eu.oblsChanged = s.eu.oblsChanged
      ∧ t.eu.callsSettled = s.eu.callsSettled ∧ v.eu.oblsOpened = s.eu.oblsOpened ∧ v.eu.enables = s.eu.enables := by
  rw [h₃.events, h₂.events, h₁.events]
  exact ⟨rfl, rfl, rfl, rfl, rfl, rfl⟩

end

section
variable (s : State)

theorem leaving_leftSlots : s.leftSlots.Leaving s.now := (slotsLeft_leftSlots s).leaving ⟨rfl, rfl, rfl⟩

theorem callsLeft_leftCalls : s.leftSlots.CallsLeft s.leftCalls := callsLeft_foldl (leaving_leftSlots s) _

theorem oblsLeft_leftObls : s.leftCalls.OblsLeft s.leftObls := oblsLeft_foldl _ _

theorem slot_leftAll (i : Fin 8) : s.leftAll.slot i = (s.slot i).left := by
  rw [State.leftAll, State.slot_setVerdict, (oblsLeft_leftObls s).slot, (callsLeft_leftCalls s).slot,
    State.leftSlots, sweep_slots.entry_foldl trivial, State.slot_setLc]

theorem call_leftAll (k : Fin 8) : s.leftAll.call k = (s.leftSlots.call k).left s.now := by
  rw [State.leftAll, State.call_setVerdict, (oblsLeft_leftObls s).call, State.leftCalls,
    (sweep_calls s.now).entry_foldl (leaving_leftSlots s)]

theorem obl_leftAll (o : Fin 8) : s.leftAll.obl o = (s.obl o).left := by
  rw [State.leftAll, State.obl_setVerdict, State.leftObls, sweep_obligations.entry_foldl trivial,
    (callsLeft_leftCalls s).obl, (slotsLeft_leftSlots s).obl, State.obl_setLc]

/-- What LEAVE reaches: the link, the entries with the verdict record, and the flags and marks. -/
theorem leftAll_rest : s.leftAll = { s with
    lc := s.lc.left
    outbox := s.leftObls.outbox
    cu := s.leftObls.cu
    ou := { entries := s.leftObls.ou.entries, verdict := none }
    eu := s.leftObls.eu } :=
  (oblsLeft_leftObls s).rest_all (slotsLeft_leftSlots s) (callsLeft_leftCalls s)

end

end Sys2Proof.Machine
end

section
/-! SUPPORT. What LEAVE leaves (R27, R61, R109, R129). -/

namespace Sys2Proof.Machine

/-! ## Entries, flags and marks after LEAVE -/

section
variable (s : State)

/-- A call entry that the slots' turns have let go is no call to abandon. -/
theorem call_leftSlots {s : State} (hb : s.BindingInv) (k : Fin 8) : s.leftSlots.call k
    = if (s.call k).state = .reserved then CallEntry.freeWith (s.call k).generation else s.call k := by
  have hb' : (s.setLc s.lc.left).BindingInv := ⟨hb.slot_bound, hb.entry_bound⟩
  rw [State.leftSlots]
  split
  next h => rw [call_foldl_leavingSlot_of_reserved hb' (k := k) h, State.call_setLc]
  next h => rw [call_foldl_leavingSlot_of_not_reserved hb' (k := k) h, State.call_setLc]

theorem abandonable_leftSlots {s : State} (hb : s.BindingInv) (k : Fin 8) :
    (s.leftSlots.call k).abandonable = (s.call k).abandonable := by
  rw [call_leftSlots hb]
  split
  next h =>
    rw [CallEntry.abandonable, CallEntry.abandonable, h]
    rfl
  · rfl

theorem flag_setVerdict (s : State) (v : Option Verdict) (g : Flag) : (s.setVerdict v).flag g = s.flag g := rfl

theorem flag_setLc (s : State) (lc : LinkController) (g : Flag) : (s.setLc lc).flag g = s.flag g := rfl

theorem slotDone_leftAll : s.leftAll.flag .slotDone = true
    ↔ s.flag .slotDone = true ∨ ∃ i, (s.slot i).active = true := by
  rw [State.leftAll, flag_setVerdict, State.leftObls, sweep_obligations.other_flag_foldl trivial (by decide),
    State.leftCalls, (sweep_calls s.now).other_flag_foldl (leaving_leftSlots s) (by decide), State.leftSlots,
    sweep_slots.flag_foldl trivial, flag_setLc]
  rfl

theorem callSettled_leftAll {s : State} (hb : s.BindingInv) : s.leftAll.flag .callSettled = true
    ↔ s.flag .callSettled = true ∨ ∃ k, (s.call k).abandonable = true := by
  rw [State.leftAll, flag_setVerdict, State.leftObls, sweep_obligations.other_flag_foldl trivial (by decide),
    State.leftCalls, (sweep_calls s.now).flag_foldl (leaving_leftSlots s)]
  simp only [abandonable_leftSlots hb]
  rw [State.leftSlots, sweep_slots.other_flag_foldl trivial (by decide), flag_setLc]

theorem oblNote_leftAll : s.leftAll.flag .oblNote = true
    ↔ s.flag .oblNote = true ∨ ∃ o, (s.obl o).held = true := by
  rw [State.leftAll, flag_setVerdict, State.leftObls, sweep_obligations.flag_foldl trivial]
  simp only [(callsLeft_leftCalls s).obl, (slotsLeft_leftSlots s).obl, State.obl_setLc]
  rw [State.leftCalls, (sweep_calls s.now).other_flag_foldl (leaving_leftSlots s) (by decide), State.leftSlots,
    sweep_slots.other_flag_foldl trivial (by decide), flag_setLc]

theorem other_flag_leftAll {g : Flag} (h₁ : g ≠ .slotDone) (h₂ : g ≠ .callSettled) (h₃ : g ≠ .oblNote) :
    s.leftAll.flag g = s.flag g := by
  rw [State.leftAll, flag_setVerdict, State.leftObls, sweep_obligations.other_flag_foldl trivial h₃,
    State.leftCalls, (sweep_calls s.now).other_flag_foldl (leaving_leftSlots s) h₂, State.leftSlots,
    sweep_slots.other_flag_foldl trivial h₁, flag_setLc]

/-- LEAVE clears no flag. -/
theorem flag_leftAll_of_set {s : State} (hb : s.BindingInv) {g : Flag} (h : s.flag g = true) :
    s.leftAll.flag g = true := by
  by_cases h₁ : g = .slotDone
  · exact h₁ ▸ (slotDone_leftAll s).mpr (.inl (h₁ ▸ h))
  by_cases h₂ : g = .callSettled
  · exact h₂ ▸ (callSettled_leftAll hb).mpr (.inl (h₂ ▸ h))
  by_cases h₃ : g = .oblNote
  · exact h₃ ▸ (oblNote_leftAll s).mpr (.inl (h₃ ▸ h))
  rw [other_flag_leftAll s h₁ h₂ h₃, h]

theorem slotsDone_leftAll (i : Fin 8) : s.leftAll.eu.slotsDone.getLsbD i.val
    = (s.eu.slotsDone.getLsbD i.val || (s.slot i).active) := by
  obtain ⟨h, -⟩ := (oblsLeft_leftObls s).events_all (slotsLeft_leftSlots s) (callsLeft_leftCalls s)
  rw [State.leftAll, State.setVerdict_eu, h, State.leftSlots, sweep_slots.marks_foldl trivial, State.slot_setLc,
    State.setLc_eu]

theorem callsSettled_leftAll {s : State} (hb : s.BindingInv) (k : Fin 8) : s.leftAll.eu.callsSettled.getLsbD k.val
    = (s.eu.callsSettled.getLsbD k.val || (s.call k).abandonable) := by
  obtain ⟨-, h, -, h₁, -⟩ := (oblsLeft_leftObls s).events_all (slotsLeft_leftSlots s) (callsLeft_leftCalls s)
  rw [State.leftAll, State.setVerdict_eu, h, State.leftCalls,
    (sweep_calls s.now).marks_foldl (leaving_leftSlots s), abandonable_leftSlots hb, h₁, State.setLc_eu]

theorem oblsChanged_leftAll (o : Fin 8) : s.leftAll.eu.oblsChanged.getLsbD o.val
    = (s.eu.oblsChanged.getLsbD o.val || (s.obl o).held) := by
  obtain ⟨-, -, h, -⟩ := (oblsLeft_leftObls s).events_all (slotsLeft_leftSlots s) (callsLeft_leftCalls s)
  rw [State.leftAll, State.setVerdict_eu, State.leftObls, sweep_obligations.marks_foldl trivial, h,
    (callsLeft_leftCalls s).obl, (slotsLeft_leftSlots s).obl, State.setLc_eu, State.obl_setLc]

end

/-! ## LEAVE with the takings that follow it -/

theorem takeLeave_of_offBus {s : State} (h : s.lc.state = .config ∨ s.lc.state = .offline) :
    takeLeave s = .refuse s .state := by
  rcases h with h | h <;> simp only [takeLeave, h]

theorem State.SameOwners.slot {s t : State} (h : s.SameOwners t) (i : Fin 8) : t.slot i = s.slot i := by
  rw [State.slot, h.slots]
  rfl

theorem State.SameOwners.call {s t : State} (h : s.SameOwners t) (k : Fin 8) : t.call k = s.call k := by
  rw [State.call, h.calls]
  rfl

theorem State.SameOwners.obl {s t : State} (h : s.SameOwners t) (o : Fin 8) : t.obl o = s.obl o := by
  rw [State.obl, h.obligations]
  rfl

theorem flag_reply (s : State) (st : Status) (data : List Byte) (g : Flag) :
    (s.reply st data).flag g = s.flag g := rfl

theorem offBus_leftAll (s : State) (st : Status) (data : List Byte) : (s.leftAll.reply st data).OffBus := by
  refine ⟨?_, ?_, fun o => ?_⟩
  · rw [leftAll_rest]; rfl
  · rw [leftAll_rest]; rfl
  · rw [State.obl_reply, obl_leftAll, Obligation.left]
    split
    next h => rw [h]; decide
    · decide

/-- LEAVE ends in a state that differs from the one it makes in what reactions can change off the bus alone. -/
theorem exec_leave_of_follows {s : State} (h : s.ready .leave) (hf : s.follows) : ∃ t, exec .leave s = .next t
    ∧ (s.leftAll.reply .ok []).SameBesidesActions t ∧ (s.leftAll.reply .ok []).SameOwners t := by
  have hs : s.lc.state ≠ .config := by rcases hf with hf | hf | hf <;> rw [hf] <;> decide
  have ho : s.lc.state ≠ .offline := by rcases hf with hf | hf | hf <;> rw [hf] <;> decide
  have htaken : (takeLeave s).status = .ok ∧ (takeLeave s).data = [] := by
    rw [takeLeave_of_joined hs ho]
    exact ⟨rfl, rfl⟩
  refine ⟨_, congrArg Host.Outcome.next (hostCommand_of_ready h takeLeave), ?_⟩
  rw [takeLeave_state s hs ho, htaken.1, htaken.2]
  exact (takesKept_offBus (offBus_leftAll s _ _)).settleTasks _ _ (onlyPlain_of_takings (onlyTakings_leave s))
    ⟨.refl _, .refl _⟩

/-- Settles O10: LEAVE takes every slot, call and obligation off the line, and no reaction undoes it. -/
theorem leaveTakesTheStationOffTheLine : Obligations.LeaveTakesTheStationOffTheLine := by
  refine ⟨fun s hr hs => exec_of_refuse hr (takeLeave_of_offBus hs), fun s hr hf hb => ?_⟩
  obtain ⟨t, hrun, hsame, hown⟩ := exec_leave_of_follows hr hf
  have hslot (i : Fin 8) : t.slot i = (s.slot i).left :=
    (hown.slot i).trans ((State.slot_reply ..).trans (slot_leftAll s i))
  have hcall (k : Fin 8) : t.call k = (s.leftSlots.call k).left s.now :=
    (hown.call k).trans ((State.call_reply ..).trans (call_leftAll s k))
  have hobl (o : Fin 8) : t.obl o = (s.obl o).left :=
    (hown.obl o).trans ((State.obl_reply ..).trans (obl_leftAll s o))
  have hflag {g : Flag} (h₁ : g ≠ .reactLimit) (h₂ : g ≠ .reactNotice) : t.flag g = s.leftAll.flag g := by
    rw [hsame.flags g h₁ h₂, flag_reply]
  have hevents : t.eu = { s.leftAll.eu with flags := t.eu.flags } := by
    have h := hsame.events
    rwa [State.reply_eu] at h
  refine ⟨t, hrun, ?link, ?port, fun i hi => ?leftSlot, fun i hp hs => ?otherSlot, fun k hk => ?abandoned,
    fun k hk => ?letGo, fun k hk => ?otherCall, fun o ho => ?freed, fun o ho => ?alreadyFree, ?slotDone,
    fun i => ?slotMark, ?callSettled, fun k => ?callMark, ?oblNote, fun o => ?oblMark, ?opened, ?enables,
    fun f h₁ h₂ h₃ h₄ h₅ => ?otherFlag, fun f hset => ?keptFlag, ?verdict, ?queue, ?acceptance, ?image, ?time⟩
  case link => rw [hown.link, leftAll_rest]; rfl
  case port => rw [hsame.ports.1, leftAll_rest, reply_eq]; rfl
  case leftSlot =>
    rw [hslot, Slot.left_of_active (Slot.active_iff.mpr hi)]
    exact ⟨rfl, rfl, rfl, rfl, rfl, rfl⟩
  case otherSlot => rw [hslot, Slot.left_of_inactive (by simp [Slot.active, hp, hs])]
  case abandoned =>
    have hne : (s.call k).state ≠ .reserved := by rcases hk with hk | hk <;> rw [hk] <;> decide
    rw [hcall, call_leftSlots hb, if_neg hne, CallEntry.left, if_pos (CallEntry.abandonable_iff.mpr hk)]
    exact ⟨rfl, rfl, rfl, rfl, rfl, fun x => mem_insertStations _ _ _, rfl, rfl⟩
  case letGo =>
    rw [hcall, call_leftSlots hb, if_pos hk]
    exact if_neg (by simp [CallEntry.abandonable, CallEntry.freeWith])
  case otherCall =>
    have hne : (s.call k).state ≠ .reserved := by rcases hk with hk | hk <;> rw [hk] <;> decide
    rw [hcall, call_leftSlots hb, if_neg hne]
    exact if_neg (by rcases hk with hk | hk <;> simp [CallEntry.abandonable, hk])
  case freed => rw [hobl, Obligation.left, if_neg ho]
  case alreadyFree => rw [hobl, Obligation.left, if_pos ho]
  case slotDone =>
    rw [hflag (by decide) (by decide), slotDone_leftAll]
    simp only [Slot.active_iff]
  case slotMark =>
    rw [hevents, slotsDone_leftAll, Bool.or_eq_true, Slot.active_iff]
  case callSettled =>
    rw [hflag (by decide) (by decide), callSettled_leftAll hb]
    simp only [CallEntry.abandonable_iff]
  case callMark =>
    rw [hevents, callsSettled_leftAll hb, Bool.or_eq_true, CallEntry.abandonable_iff]
  case oblNote =>
    rw [hflag (by decide) (by decide), oblNote_leftAll]
    simp only [Obligation.held, bne_iff_ne]
  case oblMark =>
    rw [hevents, oblsChanged_leftAll, Bool.or_eq_true, Obligation.held, bne_iff_ne]
  case opened =>
    obtain ⟨-, -, -, -, h, -⟩ := (oblsLeft_leftObls s).events_all (slotsLeft_leftSlots s) (callsLeft_leftCalls s)
    rw [hevents, State.leftAll, State.setVerdict_eu, h, State.setLc_eu]
  case enables =>
    obtain ⟨-, -, -, -, -, h⟩ := (oblsLeft_leftObls s).events_all (slotsLeft_leftSlots s) (callsLeft_leftCalls s)
    rw [hevents, State.leftAll, State.setVerdict_eu, h, State.setLc_eu]
  case otherFlag => rw [hflag h₄ h₅, other_flag_leftAll s h₁ h₂ h₃]
  case keptFlag => exact hsame.set_flags f ((flag_reply ..).trans (flag_leftAll_of_set hb hset))
  case verdict => rw [hown.obligations, State.reply_ou, leftAll_rest]
  case queue => rw [hsame.received.1, State.reply_rq, leftAll_rest]
  case acceptance => rw [hsame.received.2, State.reply_au, leftAll_rest]
  case image => rw [hsame.ports.2.1, State.reply_image, leftAll_rest]
  case time => rw [hsame.time.1, State.now_reply, leftAll_rest]; rfl

end Sys2Proof.Machine
end

section
/-! SUPPORT. Counts of the image and of the reactions (R142, R184), and properties that are kept side by side. -/

namespace Sys2Proof.Machine

/-! ## Two properties -/

/-- A property kept by every part of a row is kept where another one may be used. -/
theorem RowsKept.under {P : State → Prop} (K : RowsKept P) (J : State → Prop) : RowsKeptWith J P where
  port s t ht _ h := K.port s t ht h
  command c s _ h := K.command c s h
  stale s e hm hp _ h := K.stale s e hm hp h
  carry s e hm hp _ h := K.carry s e hm hp h
  sof s c hc _ h := K.sof s c hc h
  edge s k _ h := K.edge s k h
  timer s t _ h := K.timer s t h
  lead s g _ h := K.lead s g h
  trail s g _ h := K.trail s g h
  call s k _ h := K.call s k h
  tick s inputs _ h := K.tick s inputs h
  readBit s level hp hd _ h := K.readBit s level hp hd h

/-! ## The image and the fire counts -/

/-- The image's fields that bound a count, and the fire counts, are in their ranges. -/
structure State.SettingsInv (s : State) : Prop where
  image : s.image.station.holdLength ≤ 65535 ∧ s.image.station.retryLimit ≤ 15
  fires : ∀ r, (s.run r).fireCount ≤ 65535

theorem settingsInv_congr {s t : State} (h : s.SettingsInv) (hi : t.image = s.image) (hr : t.re.runs = s.re.runs) :
    t.SettingsInv where
  image := by rw [hi]; exact h.image
  fires r := by
    unfold State.run
    rw [hr]
    exact h.fires r

theorem settingsInv_owners {s t : State} (hf : OwnersFrame s t) (h : s.SettingsInv) : t.SettingsInv :=
  settingsInv_congr h hf.image (by rw [hf.re])

theorem settingsInv_setRun {s : State} (h : s.SettingsInv) (r : Fin 24) {x : ReactionRun}
    (hx : x.fireCount ≤ 65535) : (s.setRun r x).SettingsInv where
  image := h.image
  fires q := by
    rw [State.run_setRun]
    split
    · exact hx
    · exact h.fires q

theorem settingsInv_arm {s : State} (h : s.SettingsInv) (r : Fin 24) : (s.armReaction r).SettingsInv := by
  unfold State.armReaction
  split
  iterate 2 exact settingsInv_setRun h r (h.fires r)
  · exact h

theorem settingsInv_disarm {s : State} (h : s.SettingsInv) (r : Fin 24) : (s.disarmReaction r).SettingsInv := by
  unfold State.disarmReaction
  split
  · exact settingsInv_setRun h r (h.fires r)
  all_goals exact h

theorem Acts.settingsInv {s t : State} {r : Fin 24} (ht : Acts s r t) (h : s.SettingsInv) : t.SettingsInv := by
  have same {u : State} (hi : u.image = s.image) (hr : u.re.runs = s.re.runs) : u.SettingsInv :=
    settingsInv_congr h hi hr
  cases ht with
  | send i => exact settingsInv_owners ((OwnersFrame.refl s).requestSlot i) h
  | timerStart t parameter =>
    obtain ⟨x, hx⟩ := actTimerStart_frame s t parameter
    rw [hx]
    exact same rfl rfl
  | trainStop g => rcases stopTrain_frame s g with e | ⟨x, e⟩ <;> rw [e] <;> exact same rfl rfl
  | arm q => exact settingsInv_arm h q
  | disarm q => exact settingsInv_disarm h q
  | finish o status ho => exact settingsInv_owners ((OwnersFrame.refl s).finishObl o status []) h
  | holdPulse parameter hs => exact settingsInv_owners (OwnersFrame.refl _).arbiter (same rfl rfl)
  | notify code =>
    exact settingsInv_congr (settingsInv_setRun h r (x := { s.run r with lastNotice := code }) (h.fires r)) rfl rfl
  | _ => exact same rfl rfl

theorem noteRefusal_image (s : State) (r : Fin 24) (x : ActionResult) : (s.noteRefusal r x).image = s.image := by
  cases x <;> rfl

/-- A firing is counted, and the count saturates (R142). -/
theorem settingsInv_fire {s : State} (r : Fin 24) (h : s.SettingsInv) : (s.fire r).state.SettingsInv := by
  have hcount (x : ReactionRun) (budget : Nat) (now : Stamp) (result : ActionResult) :
      (x.fired budget now result).fireCount ≤ 65535 := by
    rw [fired_eq]
    exact Nat.min_le_right _ _
  have hperf := (acts_perform s r).settingsInv h
  unfold State.fire
  dsimp only
  exact settingsInv_congr (settingsInv_setRun hperf r (hcount _ _ _ _)) (noteRefusal_image _ r _)
    (noteRefusal_frame _ r _).1

theorem tasksKept_settings : TasksKept State.SettingsInv where
  free _ _ h := settingsInv_congr h rfl rfl
  fire _ r _ _ h := settingsInv_fire r h
  suppress _ _ _ _ h := settingsInv_congr h rfl rfl
  matchFrame s x h := by rw [matchFrame_frame]; exact settingsInv_congr h rfl rfl
  openObligation s h := settingsInv_owners (OwnersFrame.refl s).openObligation h
  doneArrival s x h := settingsInv_owners ((OwnersFrame.refl s).doneArrival x) h
  withdrawArrival s x h := settingsInv_owners ((OwnersFrame.refl s).withdrawArrival x) h
  choose s h := settingsInv_owners (OwnersFrame.refl s).arbiter h
  count s c k e h := by
    unfold State.countEdge
    dsimp only
    split
    · exact settingsInv_congr h rfl rfl
    · exact h

theorem num2_le (a b : Byte) : num2 a b ≤ 65535 := by
  unfold num2
  omega

/-- A loaded STATION entry is in its ranges (R184). -/
theorem settingsInv_load {s t : State} {kind index : Byte} {f : Vector Byte 11} (h : s.SettingsInv)
    (ht : s.loadEntry kind index f = some t) : t.SettingsInv := by
  unfold State.loadEntry at ht
  split at ht
  case h_1 =>
    obtain ⟨x, hx, rfl⟩ := Option.map_eq_some_iff.mp ht
    refine ⟨?_, h.fires⟩
    unfold loadStation at hx
    split at hx
    · split at hx
      next hf =>
        cases hx
        exact ⟨num2_le f[4] f[5], hf.2.2.2.1⟩
      · cases hx
    · cases hx
  case h_9 => cases ht
  all_goals
    obtain ⟨x, -, rfl⟩ := Option.map_eq_some_iff.mp ht
    exact ⟨h.image, h.fires⟩

theorem settingsInv_applyImage {s t : State} (h : s.SettingsInv) (hi : t.image = s.image)
    (ht : t.re = s.applyImage.re) : t.SettingsInv where
  image := by rw [hi]; exact h.image
  fires r := by
    have hrun : t.run r = (s.reaction r).initialRun := by
      unfold State.run
      rw [ht, applyImage_re]
      exact Vector.getElem_ofFn r.isLt
    rw [hrun]
    exact Nat.zero_le _

theorem Took.settingsInv {s t : State} (ht : Took s t) (h : s.SettingsInv) : t.SettingsInv := by
  have same {u : State} (hi : u.image = s.image) (hr : u.re.runs = s.re.runs) : u.SettingsInv :=
    settingsInv_congr h hi hr
  have owners {u : State} (hu : OwnersFrame s u) : u.SettingsInv := settingsInv_owners hu h
  cases ht with
  | joinConfig hs hf => exact settingsInv_applyImage h (by rw [applyImage_frame]) rfl
  | leave hs ho => exact settingsInv_owners (ownersFrame_takeLeave hs ho) (same rfl rfl)
  | holdAssert => exact settingsInv_owners (OwnersFrame.refl _).arbiter (same rfl rfl)
  | holdRelease => exact settingsInv_owners (OwnersFrame.refl _).arbiter (same rfl rfl)
  | load kind index f _ hs ht => exact settingsInv_load h ht
  | slotRequest i => exact owners ((OwnersFrame.refl s).requestSlot i)
  | abortPending i => exact owners ((OwnersFrame.refl s).arriveDone i _ _).arbiter
  | rxRelease r rest => split <;> exact same rfl rfl
  | callWithdraw k => exact owners ((OwnersFrame.refl s).setCall k _).arbiter
  | oblFinish o status bytes => exact owners ((OwnersFrame.refl s).finishObl o status bytes)
  | oblDiscard o => exact owners ((OwnersFrame.refl s).freeObl o)
  | arm r => exact settingsInv_arm h r
  | disarm r => exact settingsInv_disarm h r
  | force r hs ha => exact tasksKept_settings.force s r hs ha h
  | trainStop g => rcases stopTrain_frame s g with e | ⟨x, e⟩ <;> rw [e] <;> exact same rfl rfl
  | outputWrite lines levels => rw [writeOutputs_frame]; exact same rfl rfl
  | emptyNotices => exact same rfl rfl
  | _ => exact same rfl rfl

theorem settingsInv_reset : State.reset.SettingsInv where
  image := by decide
  fires r := by
    have hr : State.reset.run r = ReactionRun.reset := by simp [State.reset, State.run]
    rw [hr]
    exact Nat.zero_le _

theorem PortStep.settingsInv {s t : State} (ht : PortStep s t) (h : s.SettingsInv) : t.SettingsInv := by
  rcases ht.hp_or_reset with ⟨x, rfl⟩ | ⟨held, hcsLow, x, rfl⟩
  · exact settingsInv_congr h rfl rfl
  · exact settingsInv_congr settingsInv_reset rfl rfl

theorem rowsKept_settings : RowsKept State.SettingsInv := by
  have T := tasksKept_settings
  exact
    { port := fun _ _ ht h => ht.settingsInv h
      command := command_keeps T (fun _ _ ht h => ht.settingsInv h) (fun _ _ h => settingsInv_congr h rfl rfl)
        fun _ _ ht h => ht.settingsInv h
      stale := fun _ _ _ _ h => settingsInv_congr h rfl rfl
      carry := fun s e _ _ h => carryOut_keeps T (fun _ _ hf hb => settingsInv_owners hf hb)
        (fun _ _ hb => settingsInv_congr hb rfl rfl) _ e (settingsInv_congr h rfl rfl)
      sof := fun s c _ h => by rw [driveSof_frame]; exact settingsInv_congr h rfl rfl
      edge := edgeInput_keeps T fun _ _ h => settingsInv_congr h rfl rfl
      timer := expireTimer_keeps T fun _ _ h => settingsInv_congr h rfl rfl
      lead := leadTrain_keeps T (fun _ _ h => settingsInv_congr h rfl rfl) fun _ _ h => settingsInv_congr h rfl rfl
      trail := trailTrain_keeps T (fun _ _ h => settingsInv_congr h rfl rfl) fun _ _ h => settingsInv_congr h rfl rfl
      call := expireCall_keeps T fun s k _ h =>
        settingsInv_owners (((OwnersFrame.refl s).setCall k _).settleCall k _) h
      tick := fun _ _ h => settingsInv_congr h rfl rfl
      readBit := fun s level _ _ h => by
        unfold State.readBit State.ripenIdle
        split <;> exact settingsInv_congr h rfl rfl }

end Sys2Proof.Machine
end

section
/-! SUPPORT. The counts of the Link Controller through every row: each stays in its range, and one that has reached
its end has its event waiting (R22, R23, R26, R33, R37, R40, R41; log 1). -/

namespace Sys2Proof.Machine

/-! ## Moves of the Link Controller -/

theorem pulseLength_le {s : State} (h : s.lc.CountsInv) (p : BitVec 16) : s.pulseLength p ≤ 65535 := by
  have hp := p.isLt
  unfold State.pulseLength
  split
  · exact h.hold_length
  · omega

/-- Counts as they stand, where the events that they wait for go on waiting. -/
theorem LinkController.CountsInv.waiting {lc : LinkController} (h : lc.CountsInv) {due : List LineEvent}
    (hi : lc.phase = .await → .integration ∈ lc.due → .integration ∈ due)
    (hr : lc.phase = .recovery → .recoveryGap ∈ lc.due → .recoveryGap ∈ due)
    (hh : lc.phase = .hold → .holdEnded ∈ lc.due → .holdEnded ∈ due) :
    { lc with due := due }.CountsInv :=
  { h with
    integration_done := fun hp hn => hi hp (h.integration_done hp hn)
    recovery_done := fun hp hn => hr hp (h.recovery_done hp hn)
    hold_end_done := fun hp hn => hh hp (h.hold_end_done hp hn) }

/-- Counts as they stand, where no end of a count that waits is dropped. -/
theorem LinkController.CountsInv.filtered {lc : LinkController} (h : lc.CountsInv) :
    LinkController.CountsInv { lc with due := lc.due.filter (· != .pulseEnds) } :=
  h.waiting (fun _ hm => List.mem_filter.mpr ⟨hm, rfl⟩) (fun _ hm => List.mem_filter.mpr ⟨hm, rfl⟩)
    fun _ hm => List.mem_filter.mpr ⟨hm, rfl⟩

theorem linkPred_counts : LinkPred fun s => s.lc.CountsInv where
  congr _ _ h ht := by rw [ht]; exact h
  moves _ _ _ hx h := { h with stats := hx h.stats }
  pulse s p _ h := { h.filtered with pulse := pulseLength_le h p }

/-! ## JOIN, LEAVE and device reset -/

theorem countsInv_joined {lc : LinkController} (h : lc.CountsInv) {e : StationEntry} (hl : e.holdLength ≤ 65535)
    (hr : e.retryLimit ≤ 15) : (lc.joined e).CountsInv :=
  { h with
    failures := Nat.zero_le _
    dominant_run := Nat.zero_le _
    integration := Nat.zero_le _
    integration_done := fun _ hn => nomatch hn
    recovery_done := fun hp => nomatch hp
    hold_end := Nat.zero_le _
    hold_end_done := fun hp => nomatch hp
    persistence := Nat.zero_le _
    pulse := Nat.zero_le _
    hold_length := hl
    retry_limit := hr }

theorem countsInv_left {lc : LinkController} (h : lc.CountsInv) : lc.left.CountsInv :=
  { h with
    failures := Nat.zero_le _
    dominant_run := Nat.zero_le _
    integration_done := fun hp => nomatch hp
    recovery_done := fun hp => nomatch hp
    hold_end := Nat.zero_le _
    hold_end_done := fun hp => nomatch hp
    persistence := Nat.zero_le _
    pulse := Nat.zero_le _
    quiet := fun _ hn => nomatch hn }

theorem countsInv_reset : LinkController.reset.CountsInv where
  stats c := by simp [LinkController.reset]
  failures := by decide
  dominant_run := by decide
  integration := by decide
  integration_done hp := nomatch hp
  recovery := by decide
  recovery_done hp := nomatch hp
  hold_end := by decide
  hold_end_done hp := nomatch hp
  persistence := by decide
  pulse := by decide
  hold_length := by decide
  quiet _ hn := nomatch hn
  retry_limit := by decide

theorem Took.countsInv {s t : State} (ht : Took s t) (hi : s.SettingsInv) (h : s.lc.CountsInv) : t.lc.CountsInv := by
  have L := linkPred_counts
  have owners {u : State} (hu : OwnersFrame s u) : u.lc.CountsInv := L.owners hu h
  cases ht with
  | joinConfig hs hf => exact countsInv_joined h hi.image.1 hi.image.2
  | joinOffline hs => exact countsInv_joined h hi.image.1 hi.image.2
  | leave hs ho => exact L.owners (ownersFrame_takeLeave hs ho) (countsInv_left h)
  | holdAssert hs => exact L.arbiter (s := s.setLc { s.lc with holdFlag := true }) { h with }
  | holdRelease => exact L.arbiter (s := s.clearOwnHold) { h.filtered with pulse := Nat.zero_le _ }
  | clearStats => exact L.moves s s.lc.choice _ (fun _ d => by simp [Vector.getElem_replicate]) h
  | load kind index f _ hs ht =>
    rw [loadEntry_frame ht]
    exact h
  | slotRequest i => exact owners ((OwnersFrame.refl s).requestSlot i)
  | abortPending i => exact owners ((OwnersFrame.refl s).arriveDone i _ _).arbiter
  | rxRelease r rest => split <;> exact h
  | callWithdraw k => exact owners ((OwnersFrame.refl s).setCall k _).arbiter
  | oblFinish o status bytes => exact owners ((OwnersFrame.refl s).finishObl o status bytes)
  | oblDiscard o => exact owners ((OwnersFrame.refl s).freeObl o)
  | arm r => rcases s.armReaction_eq r with e | ⟨x, e⟩ <;> rw [e] <;> exact h
  | disarm r => rcases s.disarmReaction_eq r with e | ⟨x, e⟩ <;> rw [e] <;> exact h
  | force r hs ha => exact L.tasksKept.force s r hs ha h
  | trainStop g => rcases stopTrain_frame s g with e | ⟨x, e⟩ <;> rw [e] <;> exact h
  | outputWrite lines levels =>
    rw [writeOutputs_frame]
    exact h
  | _ => exact h

theorem PortStep.countsInv {s t : State} (ht : PortStep s t) (h : s.lc.CountsInv) : t.lc.CountsInv := by
  rcases ht.hp_or_reset with ⟨x, rfl⟩ | ⟨held, hcsLow, x, rfl⟩
  · exact h
  · exact countsInv_reset

/-! ## Events of the line -/

/-- Recovery begins (R22). -/
theorem countsInv_recovery {lc : LinkController} (h : lc.CountsInv) (f : Option Frame) :
    { lc with phase := .recovery, recovery := 0, frame := f }.CountsInv :=
  { h with
    integration_done := fun hp => nomatch hp
    recovery := Nat.zero_le _
    recovery_done := fun _ hn => nomatch hn
    hold_end_done := fun hp => nomatch hp }

/-- The bus goes idle; whatever waits. -/
theorem countsInv_idle {lc : LinkController} (h : lc.CountsInv) (f : Option Frame) (due : List LineEvent) :
    { lc with phase := .idle, frame := f, due := due }.CountsInv :=
  { h with
    integration_done := fun hp => nomatch hp
    recovery_done := fun hp => nomatch hp
    hold_end_done := fun hp => nomatch hp }

theorem countsInv_afterAttempt {s : State} (h : s.lc.CountsInv) (c : TxCode) : (s.afterAttempt c).lc.CountsInv := by
  have recovery := countsInv_recovery h none
  cases c
  case lost | hold => exact h
  case ok => exact { countsInv_idle h none s.lc.due with failures := Nat.zero_le _ }
  all_goals
    unfold State.afterAttempt
    dsimp only
    split
    next hf => exact { recovery with failures := Nat.succ_le_of_lt hf }
    · exact { recovery.filtered with
        failures := Nat.zero_le _
        pulse := Nat.zero_le _
        quiet := fun _ hn => Option.some.inj hn ▸ Nat.zero_le _ }

theorem countsInv_reachEod {s : State} (h : s.lc.CountsInv) : s.reachEod.lc.CountsInv := by
  unfold State.reachEod
  split
  · exact h
  next f _ =>
    split
    · split
      · exact h
      next flt _ =>
        exact { linkPred_counts.owners ((OwnersFrame.refl s).takeVerdict f.callTag (topicOf f.bits) flt) h with }
    · exact h

/-- A QUIET period ends; of what waits, the events of a hold stay (R40). -/
theorem countsInv_endQuiet {lc : LinkController} (h : lc.CountsInv) : LinkController.CountsInv { lc with
    state := .integrating, quiet := none, integration := 0, frame := none
    phase := if lc.phase = .hold then .hold else .await, holdInAwait := lc.phase == .hold
    due := lc.due.filter LineEvent.ofHold } :=
  { h with
    integration := Nat.zero_le _
    integration_done := fun _ hn => nomatch hn
    recovery_done := fun hp => by split at hp <;> cases hp
    hold_end_done := fun hp hn => by
      split at hp
      next hh => exact List.mem_filter.mpr ⟨h.hold_end_done hh hn, rfl⟩
      · cases hp
    quiet := fun _ hn => nomatch hn }

/-- A hold ends; whatever waits (R31). -/
theorem countsInv_endHold {lc : LinkController} (h : lc.CountsInv) (due : List LineEvent) :
    LinkController.CountsInv { lc with
      held := false, phase := if lc.holdInAwait then .await else .idle, holdInAwait := false, integration := 0
      dominantRun := 0, persistence := 0, holdEnd := 0, due := due } :=
  { h with
    dominant_run := Nat.zero_le _
    integration := Nat.zero_le _
    integration_done := fun _ hn => nomatch hn
    recovery_done := fun hp => by split at hp <;> cases hp
    hold_end := Nat.zero_le _
    hold_end_done := fun _ hn => nomatch hn
    persistence := Nat.zero_le _ }

/-- An event that is carried out; it is none of those that wait. -/
theorem countsInv_carryOut {s : State} (h : s.lc.CountsInv) (e : LineEvent) {due : List LineEvent}
    (hdue : ∀ x ∈ s.lc.due, x ≠ e → x ∈ due) : ((s.setLc { s.lc with due := due }).carryOut e).lc.CountsInv := by
  have L := linkPred_counts
  have kept (hi : .integration ≠ e) (hr : .recoveryGap ≠ e) (hh : .holdEnded ≠ e) :
      (s.setLc { s.lc with due := due }).lc.CountsInv :=
    h.waiting (fun _ hm => hdue _ hm hi) (fun _ hm => hdue _ hm hr) fun _ hm => hdue _ hm hh
  have hand {t : State} (ht : t.lc.CountsInv) (c : TxCode) (l : List Byte) : (t.handInFlight c l).1.lc.CountsInv :=
    L.owners (ownersFrame_handInFlight t c l) { ht with }
  cases e with
  | attemptSettled c =>
    exact L.ripen (L.settleTasks _ (countsInv_afterAttempt
      (L.owners ((OwnersFrame.refl _).countAttempt c) (hand (kept nofun nofun nofun) c _)) c))
  | receiveError c =>
    exact countsInv_recovery (L.owners ((OwnersFrame.refl _).countReceive c).breakVerdict (kept nofun nofun nofun)) none
  | peerSof =>
    exact { kept nofun nofun nofun with
      integration_done := fun hp => nomatch hp
      recovery_done := fun hp => nomatch hp
      hold_end_done := fun hp => nomatch hp }
  | eodPoint => exact countsInv_reachEod (kept nofun nofun nofun)
  | placed => exact kept nofun nofun nofun
  | crowded =>
    exact L.owners (((OwnersFrame.refl _).releaseVerdict.countStat .crowded).setFlag .oblNote (by decide))
      (kept nofun nofun nofun)
  | frameEnd =>
    simp only [State.carryOut, State.endFrame]
    split
    · exact kept nofun nofun nofun
    · exact L.ripen (L.settleTasks _ (countsInv_idle h none due))
  | recoveryGap => exact L.ripen (L.arbiter (countsInv_idle h s.lc.frame due))
  | integration =>
    exact L.ripen (L.arbiter (s := (s.setLc { s.lc with
      state := .active, phase := .idle, integration := 0, due := due }).setFlag .linkNote)
      { countsInv_idle h s.lc.frame due with integration := Nat.zero_le _, integration_done := fun hp => nomatch hp })
  | holdDetected =>
    refine L.settleTasks _ ?_
    exact { L.owners (OwnersFrame.refl _).breakVerdict (hand (kept nofun nofun nofun) .hold []) with
      integration_done := fun hp => nomatch hp
      recovery_done := fun hp => nomatch hp
      hold_end := Nat.zero_le _
      hold_end_done := fun _ hn => nomatch hn
      persistence := Nat.zero_le _ }
  | persistenceMark =>
    simp only [State.carryOut, State.markPersistence]
    exact L.settleTasks _ (kept nofun nofun nofun)
  | holdEnded => exact L.ripen (L.settleTasks _ (countsInv_endHold h due))
  | pulseEnds =>
    exact L.ripen (L.arbiter (s := s.setLc { s.lc with pulse := 0, due := due })
      { kept nofun nofun nofun with pulse := Nat.zero_le _ })
  | quietEnds => exact countsInv_endQuiet (kept nofun nofun nofun)

/-! ## A bit read -/

/-- A count of recessive bits that has not reached its end: it goes on or starts again, and at its end the event
waits. -/
theorem recessiveCount_step {n last : Nat} (hle : n ≤ last) (hne : n ≠ last) (hl : 0 < last) (read : Level)
    (e : LineEvent) : (if read = .recessive then n + 1 else 0) ≤ last
      ∧ ((if read = .recessive then n + 1 else 0) = last →
        e ∈ if read = .recessive ∧ n + 1 = last then [e] else []) := by
  cases read with
  | dominant => exact ⟨Nat.zero_le _, fun h => absurd h (Nat.ne_of_lt hl)⟩
  | recessive =>
    refine ⟨Nat.lt_of_le_of_ne hle hne, fun h => ?_⟩
    rw [if_pos ⟨rfl, h⟩]
    exact List.mem_singleton_self e

/-- What a bit means to the phase, where nothing waits. -/
theorem countsInv_phaseBit {lc : LinkController} (h : lc.CountsInv) (hd : lc.due = []) (own : Bool) (read : Level) :
    LinkController.CountsInv { (lc.phaseBit own read).1 with due := (lc.phaseBit own read).2 } := by
  have idle : ∀ {e : LineEvent}, ¬ e ∈ lc.due := by
    rw [hd]
    exact List.not_mem_nil
  cases hp : lc.phase with
  | out =>
    have hb : lc.phaseBit own read = (lc, []) := by simp [LinkController.phaseBit, hp]
    rw [hb, ← hd]
    exact h
  | await =>
    obtain ⟨hle, hdone⟩ := recessiveCount_step h.integration (fun hn => idle (h.integration_done hp hn))
      (by decide) read .integration
    rw [phaseBit_of_await _ _ hp]
    exact { h with
      integration := hle
      integration_done := fun _ => hdone
      recovery_done := fun hq => absurd (hp.symm.trans hq) BusPhase.noConfusion
      hold_end_done := fun hq => absurd (hp.symm.trans hq) BusPhase.noConfusion }
  | idle =>
    rw [phaseBit_of_idle _ _ hp]
    exact { h with
      integration_done := fun hq => absurd (hp.symm.trans hq) BusPhase.noConfusion
      recovery_done := fun hq => absurd (hp.symm.trans hq) BusPhase.noConfusion
      hold_end_done := fun hq => absurd (hp.symm.trans hq) BusPhase.noConfusion }
  | frame =>
    cases hf : lc.frame with
    | none =>
      have hb : lc.phaseBit own read = (lc, []) := by simp [LinkController.phaseBit, hp, hf]
      rw [hb, ← hd]
      exact h
    | some f =>
      rw [phaseBit_of_frame _ _ hp hf]
      exact { h with
        integration_done := fun hq => absurd (hp.symm.trans hq) BusPhase.noConfusion
        recovery_done := fun hq => absurd (hp.symm.trans hq) BusPhase.noConfusion
        hold_end_done := fun hq => absurd (hp.symm.trans hq) BusPhase.noConfusion }
  | recovery =>
    obtain ⟨hle, hdone⟩ := recessiveCount_step h.recovery (fun hn => idle (h.recovery_done hp hn))
      (by decide) read .recoveryGap
    rw [phaseBit_of_recovery _ _ hp]
    exact { h with
      integration_done := fun hq => absurd (hp.symm.trans hq) BusPhase.noConfusion
      recovery := hle
      recovery_done := fun _ => hdone
      hold_end_done := fun hq => absurd (hp.symm.trans hq) BusPhase.noConfusion }
  | hold =>
    have hm := h.persistence
    cases read with
    | dominant =>
      rw [phaseBit_of_hold_dominant _ hp]
      exact { h with
        integration_done := fun hq => absurd (hp.symm.trans hq) BusPhase.noConfusion
        recovery_done := fun hq => absurd (hp.symm.trans hq) BusPhase.noConfusion
        hold_end := Nat.zero_le _
        hold_end_done := fun _ hn => nomatch hn
        persistence := by dsimp only; split <;> omega }
    | recessive =>
      obtain ⟨hle, hdone⟩ := recessiveCount_step h.hold_end (fun hn => idle (h.hold_end_done hp hn))
        (by decide) .recessive .holdEnded
      rw [phaseBit_of_hold_recessive _ hp]
      exact { h with
        integration_done := fun hq => absurd (hp.symm.trans hq) BusPhase.noConfusion
        recovery_done := fun hq => absurd (hp.symm.trans hq) BusPhase.noConfusion
        hold_end := hle
        hold_end_done := fun _ hn => by simpa using hdone hn
        persistence := Nat.zero_le _ }

theorem quietAfter_le {n : Nat} (h : n ≤ 8191) : quietAfter n ≤ 8191 := by
  unfold quietAfter
  split
  next hn => exact Nat.le_of_lt_succ hn
  · exact h

theorem countsInv_bit {lc : LinkController} (h : lc.CountsInv) (hd : lc.due = []) (own : Bool) (read : Level) :
    (lc.bit own read).CountsInv := by
  have hphase := countsInv_phaseBit h hd own read
  have hpulse := h.pulse
  have later {e : LineEvent} {b c d : List LineEvent} (hm : e ∈ (lc.phaseBit own read).2) :
      e ∈ lc.due ++ (lc.phaseBit own read).2 ++ b ++ c ++ d := by simp [hm]
  rw [bit_eq]
  exact { hphase with
    dominant_run := by dsimp only; split <;> omega
    integration_done := fun hp hn => later (hphase.integration_done hp hn)
    recovery_done := fun hp hn => later (hphase.recovery_done hp hn)
    hold_end_done := fun hp hn => later (hphase.hold_end_done hp hn)
    pulse := by dsimp only; split <;> omega
    quiet := fun n hn => by
      obtain ⟨m, hm, rfl⟩ := Option.map_eq_some_iff.mp hn
      exact quietAfter_le (h.quiet m hm) }

/-! ## Rows -/

/-- An event that is not permitted any more is the end of no count that stands. -/
theorem countsInv_stale {s : State} (hl : s.LinkInv) (h : s.lc.CountsInv) {e : LineEvent}
    (he : s.lc.permits e = false) : (s.setLc { s.lc with due := s.lc.due.erase e }).lc.CountsInv := by
  have other {x : LineEvent} (hx : s.lc.permits x = true) (hm : x ∈ s.lc.due) : x ∈ s.lc.due.erase e :=
    (List.mem_erase_of_ne fun hxe => by rw [hxe, he] at hx; cases hx).mpr hm
  refine h.waiting (fun hp => other ?_) (fun hp => other ?_) fun hp => other ?_
  · simp [LinkController.permits, hp, hl.await_integrating hp]
  · simp [LinkController.permits, hp]
  · simp [LinkController.permits, hp]

theorem rowsKept_linkCounts : RowsKept fun s => (s.LinkInv ∧ s.SettingsInv) ∧ s.lc.CountsInv := by
  have L := linkPred_counts
  have T := linkPred_counts.tasksKept.and tasksKept_settings
  refine RowsKeptWith.and ?_ ((rowsKept_settings.under State.LinkInv).and rowsKept_linkInv)
  exact
    { port := fun _ _ ht _ h => ht.countsInv h
      command := fun c s hj h => (command_keeps T (fun _ _ ht h => ⟨ht.countsInv h.1, ht.settingsInv h.2⟩)
        (fun _ _ h => ⟨h.1, settingsInv_congr h.2 rfl rfl⟩)
        (fun _ _ ht h => ⟨ht.countsInv h.2 h.1, ht.settingsInv h.2⟩) c s ⟨h, hj.2⟩).1
      stale := fun _ _ _ he hj h => countsInv_stale hj.1 h he
      carry := fun _ e _ _ _ h => countsInv_carryOut h e fun x hm hne => (List.mem_erase_of_ne hne).mpr hm
      sof := fun s c _ _ h => L.driveSof c { h with
        integration_done := fun hp => nomatch hp
        recovery_done := fun hp => nomatch hp
        hold_end_done := fun hp => nomatch hp }
      edge := fun s k _ h => L.edgeInput s k h
      timer := fun s t _ h => L.expireTimer s t h
      lead := fun s g _ h => L.leadTrain s g h
      trail := fun s g _ h => L.trailTrain s g h
      call := fun s k _ h => L.expireCall s k h
      tick := fun _ _ _ h => h
      readBit := fun s level _ hd _ h => by
        rw [readBit_eq]
        exact { countsInv_bit h hd s.drivesHold level with } }

end Sys2Proof.Machine
end

section
/-! SUPPORT. The counts of slots, call entries and obligations through the operations on them (R44, R55, R84, R91, R99,
R111, R123). -/

namespace Sys2Proof.Machine

/-- The counts of the owners' tables are in their ranges. -/
structure State.TablesInv (s : State) : Prop where
  slots : ∀ i, (s.slot i).CountsInv
  calls : ∀ k, (s.call k).CountsInv
  obligations : ∀ o, (s.obl o).CountsInv

theorem tablesInv_congr {s t : State} (h : s.TablesInv) (ho : t.outbox = s.outbox) (hc : t.cu = s.cu)
    (he : t.ou.entries = s.ou.entries) : t.TablesInv where
  slots i := by unfold State.slot; rw [ho]; exact h.slots i
  calls k := by unfold State.call; rw [hc]; exact h.calls k
  obligations o := by unfold State.obl; rw [he]; exact h.obligations o

theorem tablesInv_arbiter {s : State} (h : s.TablesInv) : s.arbiter.TablesInv :=
  tablesInv_congr h s.arbiter_outbox s.arbiter_cu (by rw [s.arbiter_ou])

/-! ## One entry written -/

theorem tablesInv_setSlot {s : State} (h : s.TablesInv) (i : Fin 8) {x : Slot} (hx : x.CountsInv) :
    (s.setSlot i x).TablesInv where
  slots j := by
    rw [State.slot_setSlot]
    split
    · exact hx
    · exact h.slots j
  calls := h.calls
  obligations := h.obligations

theorem tablesInv_setCall {s : State} (h : s.TablesInv) (k : Fin 8) {e : CallEntry} (he : e.CountsInv) :
    (s.setCall k e).TablesInv where
  slots := h.slots
  calls j := by
    rw [State.call_setCall]
    split
    · exact he
    · exact h.calls j
  obligations := h.obligations

theorem tablesInv_setObl {s : State} (h : s.TablesInv) (o : Fin 8) {e : Obligation} (he : e.CountsInv) :
    (s.setObl o e).TablesInv where
  slots := h.slots
  calls := h.calls
  obligations p := by
    rw [State.obl_setObl]
    split
    · exact he
    · exact h.obligations p

/-- A slot that asks anew counts from 0 (R47). -/
theorem countsInv_requested {x : Slot} (h : x.CountsInv) (c : Option (Fin 8 × BitVec 3)) : (x.requested c).CountsInv :=
  ⟨Nat.zero_le _, h.deadline, Nat.zero_le _, fun _ => Nat.zero_le _⟩

/-- Counts of a slot at a done state. -/
theorem countsInv_done {x : Slot} (hl : x.losses ≤ 255) (hd : x.deadline ≤ 65535) (ha : x.attempts ≤ 16) (d : DoneState) :
    Slot.CountsInv { x with state := d.slotState } :=
  ⟨hl, hd, ha, fun hs => absurd hs (not_or.mpr (slotState_ne d))⟩

theorem countsInv_freeWith (g : BitVec 3) : (CallEntry.freeWith g).CountsInv :=
  ⟨Nat.zero_le _, Nat.zero_le _, Nat.zero_le _, Nat.zero_le _, fun _ => Nat.zero_le _⟩

theorem countsInv_free : Obligation.free.CountsInv := ⟨Nat.zero_le _, fun _ => Nat.zero_le _⟩

/-! ## Calls -/

/-- An entry written, and then settled: no WITHDRAW is owed any more (R87). -/
theorem tablesInv_setCall_settleCall {s : State} (h : s.TablesInv) (k : Fin 8) (o : CallOutcome) {e : CallEntry}
    (hd : e.deadline ≤ 65535) (hr : e.remaining ≤ 65535) (hf : e.fraction ≤ 999) (ha : e.withdrawAttempts ≤ 16) :
    ((s.setCall k e).settleCall k o).TablesInv := by
  rw [settleCall_written, State.call_setCall_self, State.setCall_setCall]
  refine tablesInv_arbiter (tablesInv_congr (tablesInv_setCall h k ?_) rfl rfl rfl)
  exact ⟨hd, hr, hf, ha, fun hp => absurd hp Bool.false_ne_true⟩

theorem setCall_call (s : State) (k : Fin 8) : s.setCall k (s.call k) = s := by
  simp [State.setCall, State.call]

theorem tablesInv_settleCall {s : State} (h : s.TablesInv) (k : Fin 8) (o : CallOutcome) :
    (s.settleCall k o).TablesInv := by
  have hk := h.calls k
  have := tablesInv_setCall_settleCall h k o hk.deadline hk.remaining hk.fraction hk.attempts
  rwa [setCall_call] at this

theorem tablesInv_openCall {s : State} (h : s.TablesInv) (k : Fin 8) (l : List Byte) : (s.openCall k l).1.TablesInv := by
  have hk := h.calls k
  by_cases hl : (responseLists s.lc.station l).1 = []
  · rw [openCall_of_none hl]
    exact tablesInv_setCall_settleCall h k _ hk.deadline hk.remaining hk.fraction hk.attempts
  · rw [openCall_of_enrolled hl]
    exact tablesInv_setCall h k ⟨hk.deadline, hk.deadline, Nat.zero_le _, hk.attempts, hk.attempts_owed⟩

theorem tablesInv_releaseCall {s : State} (h : s.TablesInv) (k : Fin 8) : (s.releaseCall k).TablesInv :=
  tablesInv_setCall h k (countsInv_freeWith _)

/-! ## Slots -/

theorem tablesInv_newRequest {s t : State} {i : Fin 8} (h : s.TablesInv) (ht : s.newRequest i = some t) :
    t.TablesInv := by
  have asked (c : Option (Fin 8 × BitVec 3)) : ((s.slot i).requested c).CountsInv := countsInv_requested (h.slots i) c
  have reserved (k : Fin 8) : (s.reserveCall i k).TablesInv := tablesInv_setCall h k
    ⟨(h.slots i).deadline, Nat.zero_le _, Nat.zero_le _, Nat.zero_le _, fun _ => Nat.zero_le _⟩
  unfold State.newRequest at ht
  split at ht
  · cases ht
    exact tablesInv_arbiter (tablesInv_setSlot h i (asked none))
  · split at ht <;> cases ht
    exact tablesInv_arbiter (tablesInv_setSlot (reserved _) i (asked _))

theorem tablesInv_requestSlot {s : State} (h : s.TablesInv) (i : Fin 8) : (s.requestSlot i).1.TablesInv := by
  have hi := h.slots i
  unfold State.requestSlot
  split
  iterate 2 exact h
  · exact tablesInv_setSlot h i ⟨hi.losses, hi.deadline, hi.attempts, hi.attempts_asked⟩
  all_goals
    split
    next ht => exact tablesInv_newRequest h ht
    · exact h

theorem tablesInv_endBinding {s : State} (h : s.TablesInv) (i : Fin 8) (d : DoneState) (l : List Byte) :
    (s.endBinding i d l).1.TablesInv := by
  have hi := h.slots i
  unfold State.endBinding
  split
  · split
    · exact tablesInv_openCall h _ l
    · exact tablesInv_setSlot (tablesInv_releaseCall h _) i ⟨hi.losses, hi.deadline, hi.attempts, hi.attempts_asked⟩
  · exact h

theorem tablesInv_applyRerun {s : State} (h : s.TablesInv) (i : Fin 8) : (s.applyRerun i).TablesInv := by
  have hi := h.slots i
  unfold State.applyRerun
  split
  · split
    next ht => exact tablesInv_newRequest h ht
    · exact tablesInv_congr (tablesInv_setSlot h i (x := { s.slot i with rerun := false, rerunDropped := true })
        ⟨hi.losses, hi.deadline, hi.attempts, hi.attempts_asked⟩) rfl rfl rfl
  · exact h

/-- A slot written, and then its arrival at a done state, at which no attempt is asked for any more. -/
theorem tablesInv_setSlot_arriveDone {s : State} (h : s.TablesInv) (i : Fin 8) {y : Slot} (hl : y.losses ≤ 255)
    (hd : y.deadline ≤ 65535) (ha : y.attempts ≤ 16) (d : DoneState) (l : List Byte) :
    ((s.setSlot i y).arriveDone i d l).1.TablesInv := by
  have arrived : (s.arrived i { y with state := d.slotState }).TablesInv :=
    tablesInv_congr (tablesInv_setSlot h i (countsInv_done hl hd ha d)) rfl rfl rfl
  rw [arriveDone_eq, setSlot_then_arrived, State.slot_setSlot_self]
  exact tablesInv_applyRerun (tablesInv_endBinding arrived i d l) i

theorem tablesInv_arriveDone {s : State} (h : s.TablesInv) (i : Fin 8) (d : DoneState) (l : List Byte) :
    (s.arriveDone i d l).1.TablesInv := by
  have hi := h.slots i
  have := tablesInv_setSlot_arriveDone h i hi.losses hi.deadline hi.attempts d l
  rwa [setSlot_slot] at this

/-- The settled code of a slot in flight, which is SENDING (R55). -/
theorem tablesInv_slotOutcome {s : State} (h : s.TablesInv) (hr : s.lc.retryLimit ≤ 15) {i : Fin 8}
    (hi : (s.slot i).state = .sending) (c : TxCode) (l : List Byte) : (s.slotOutcome i c l).1.TablesInv := by
  obtain ⟨y, hy, hcases⟩ := slotOutcome_cases s i c l
  have hx := h.slots i
  have hasked := hx.attempts_asked (.inr hi)
  have hlosses : y.losses ≤ 255 := by
    rcases hy.losses with e | e <;> rw [e]
    · exact hx.losses
    · exact Nat.min_le_right _ _
  have hdeadline : y.deadline ≤ 65535 := by rw [hy.deadline]; exact hx.deadline
  have hattempts : y.attempts ≤ 16 := by
    rcases hy.attempts with e | e <;> rw [e] <;> omega
  rcases hcases with ⟨d, l', e⟩ | ⟨e, hlimit⟩ <;> rw [e]
  · exact tablesInv_setSlot_arriveDone h i hlosses hdeadline hattempts d l'
  · have hback : y.attempts ≤ 15 := by
      rcases hlimit with e | hle
      · rw [e]; exact hasked
      · exact hle.trans hr
    exact tablesInv_arbiter (tablesInv_setSlot h i ⟨hlosses, hdeadline, hattempts, fun _ => hback⟩)

/-! ## Outcomes of DONE and WITHDRAW (R99, R123) -/

/-- The settled code of a DONE in flight, whose entry is FINISHING. -/
theorem tablesInv_doneOutcome {s : State} (h : s.TablesInv) (hr : s.lc.retryLimit ≤ 15) {o : Fin 8}
    (ho : (s.obl o).state = .finishing) (c : TxCode) : (s.doneOutcome o c).TablesInv := by
  have hasked := (h.obligations o).attempts_finishing ho
  unfold State.doneOutcome
  split
  · exact tablesInv_congr (tablesInv_setObl h o countsInv_free) rfl rfl rfl
  iterate 2 exact h
  all_goals
    dsimp only
    split
    · exact tablesInv_congr (tablesInv_setObl h o (e := { s.obl o with
        attempts := (s.obl o).attempts + 1, state := .failed })
        ⟨Nat.succ_le_succ hasked, fun hn => nomatch hn⟩) rfl rfl rfl
    next hle =>
      exact tablesInv_setObl h o ⟨Nat.succ_le_succ hasked, fun _ => (not_lt.mp hle).trans hr⟩

/-- The settled code of a WITHDRAW in flight, which is owed. -/
theorem tablesInv_withdrawOutcome {s : State} (h : s.TablesInv) (hr : s.lc.retryLimit ≤ 15) {k : Fin 8}
    (hk : (s.call k).withdrawPending = true) (c : TxCode) : (s.withdrawOutcome k c).1.TablesInv := by
  have he := h.calls k
  have hasked := he.attempts_owed hk
  unfold State.withdrawOutcome
  split
  · exact tablesInv_settleCall h k _
  iterate 2 exact h
  all_goals
    dsimp only
    split
    · exact tablesInv_setCall_settleCall h k _ he.deadline he.remaining he.fraction (Nat.succ_le_succ hasked)
    next hle =>
      rw [State.call_setCall_self] at hle
      exact tablesInv_setCall h k ⟨he.deadline, he.remaining, he.fraction, Nat.succ_le_succ hasked,
        fun _ => (not_lt.mp hle).trans hr⟩

/-- The code of what is in flight is handed to its owner (R66). -/
theorem tablesInv_handInFlight {s : State} (h : s.TablesInv) (hr : s.lc.retryLimit ≤ 15) (hf : s.Owned s.lc.inFlight)
    (c : TxCode) (l : List Byte) : (s.handInFlight c l).1.TablesInv := by
  have landed : (s.setLc { s.lc with inFlight := none }).TablesInv := tablesInv_congr h rfl rfl rfl
  unfold State.handInFlight State.handOutcome
  split
  next x hx =>
    rw [hx] at hf
    dsimp only
    split
    next i => exact tablesInv_slotOutcome landed hr ((hf.sending_iff i).mpr rfl) c l
    next o => exact tablesInv_doneOutcome landed hr (hf.done_flight o rfl) c
    next k => exact tablesInv_withdrawOutcome landed hr (hf.withdraw_flight k rfl) c
  · exact h

/-! ## Frames received, verdicts and obligations -/

theorem tablesInv_doneArrival {s : State} (h : s.TablesInv) (x : RxFrame) : (s.doneArrival x).1.TablesInv := by
  have hk (k : Fin 8) := h.calls k
  unfold State.doneArrival
  dsimp only
  split
  · unfold State.collectDone
    dsimp only
    split
    · exact tablesInv_setCall_settleCall h _ _ (hk _).deadline (hk _).remaining (hk _).fraction (hk _).attempts
    · exact tablesInv_setCall h _
        ⟨(hk _).deadline, (hk _).remaining, (hk _).fraction, (hk _).attempts, (hk _).attempts_owed⟩
  · split
    · refine tablesInv_congr (tablesInv_setCall h (Fin.ofNat 8 (CallTag.ofTopic x.topic).index.toNat) ?_) rfl rfl rfl
      exact ⟨(hk _).deadline, (hk _).remaining, (hk _).fraction, (hk _).attempts, (hk _).attempts_owed⟩
    · exact tablesInv_congr h rfl rfl rfl

theorem tablesInv_withdrawArrival {s : State} (h : s.TablesInv) (x : RxFrame) : (s.withdrawArrival x).1.TablesInv := by
  unfold State.withdrawArrival
  split
  next o _ =>
    split
    · exact h
    · exact tablesInv_arbiter (tablesInv_congr (tablesInv_setObl h o (e := { s.obl o with state := .withdrawn })
        ⟨(h.obligations o).attempts, fun hn => nomatch hn⟩) rfl rfl rfl)
  · exact h

theorem tablesInv_releaseVerdict {s : State} (h : s.TablesInv) : s.releaseVerdict.TablesInv := by
  rcases s.releaseVerdict_eq with e | ⟨o, -, e⟩ <;> rw [e]
  · exact h
  · exact tablesInv_setObl h o countsInv_free

theorem tablesInv_breakVerdict {s : State} (h : s.TablesInv) : s.breakVerdict.TablesInv :=
  tablesInv_congr (tablesInv_releaseVerdict h) rfl rfl rfl

theorem tablesInv_openObligation {s : State} (h : s.TablesInv) : s.openObligation.1.TablesInv := by
  unfold State.openObligation
  split
  next o _ =>
    split
    · exact tablesInv_congr (tablesInv_setObl h o (e := { s.obl o with state := .opened, openedAt := s.now })
        ⟨(h.obligations o).attempts, fun hn => nomatch hn⟩) rfl rfl rfl
    · exact tablesInv_congr h rfl rfl rfl
  · exact tablesInv_breakVerdict h

theorem tablesInv_takeVerdict {s : State} (h : s.TablesInv) (tag : CallTag) (topic : Topic) (f : Fin 16) :
    (s.takeVerdict tag topic f).1.TablesInv := by
  have superseded : (s.supersede tag).TablesInv := by
    unfold State.supersede
    split
    next o _ => exact tablesInv_congr (tablesInv_setObl h o countsInv_free) rfl rfl rfl
    · exact h
  unfold State.takeVerdict
  split
  · exact h
  · split
    next o _ => exact tablesInv_setObl superseded o ⟨Nat.zero_le _, fun hn => nomatch hn⟩
    · exact h

theorem tablesInv_reachEod {s : State} (h : s.TablesInv) : s.reachEod.TablesInv := by
  unfold State.reachEod
  split
  · exact h
  next f _ =>
    split
    · split
      · exact h
      next flt _ => exact tablesInv_congr (tablesInv_takeVerdict h f.callTag (topicOf f.bits) flt) rfl rfl rfl
    · exact h

theorem tablesInv_finishObl {s : State} (h : s.TablesInv) (o : Fin 8) (status : Byte) (bytes : List Byte) :
    (s.finishObl o status bytes).TablesInv :=
  tablesInv_arbiter (tablesInv_setObl h o ⟨Nat.zero_le _, fun _ => Nat.zero_le _⟩)

end Sys2Proof.Machine
end

section
/-! SUPPORT. The counts of the owners' tables through every row, and with them every count. -/

namespace Sys2Proof.Machine

/-! ## Actions and the events of one instant -/

theorem Acts.tablesInv {s t : State} {r : Fin 24} (ht : Acts s r t) (h : s.TablesInv) : t.TablesInv := by
  have same {u : State} (ho : u.outbox = s.outbox) (hc : u.cu = s.cu) (he : u.ou.entries = s.ou.entries) :
      u.TablesInv := tablesInv_congr h ho hc he
  cases ht with
  | send i => exact tablesInv_requestSlot h i
  | timerStart t parameter =>
    obtain ⟨x, hx⟩ := actTimerStart_frame s t parameter
    rw [hx]
    exact same rfl rfl rfl
  | trainStop g => rcases stopTrain_frame s g with e | ⟨x, e⟩ <;> rw [e] <;> exact same rfl rfl rfl
  | arm q => rcases s.armReaction_eq q with e | ⟨x, e⟩ <;> rw [e] <;> exact same rfl rfl rfl
  | disarm q => rcases s.disarmReaction_eq q with e | ⟨x, e⟩ <;> rw [e] <;> exact same rfl rfl rfl
  | finish o status ho => exact tablesInv_finishObl h o status []
  | holdPulse parameter hs => exact tablesInv_arbiter (same rfl rfl rfl)
  | _ => exact same rfl rfl rfl

theorem tablesInv_fire {s : State} (r : Fin 24) (h : s.TablesInv) : (s.fire r).state.TablesInv := by
  have hperf := (acts_perform s r).tablesInv h
  obtain ⟨hout, hcu, hou⟩ := noteRefusal_tables ((s.perform r).state.setRun r (((s.perform r).state.run r).fired
    (s.reaction r).budget s.now (s.perform r).result)) r (s.perform r).result
  unfold State.fire
  exact tablesInv_congr hperf hout hcu (by rw [hou]; rfl)

theorem tasksKept_tables : TasksKept State.TablesInv where
  free _ _ h := tablesInv_congr h rfl rfl rfl
  fire _ r _ _ h := tablesInv_fire r h
  suppress _ _ _ _ h := tablesInv_congr h rfl rfl rfl
  matchFrame s x h := by
    rw [matchFrame_frame]
    exact tablesInv_congr h rfl rfl rfl
  openObligation _ h := tablesInv_openObligation h
  doneArrival _ x h := tablesInv_doneArrival h x
  withdrawArrival _ x h := tablesInv_withdrawArrival h x
  choose _ h := tablesInv_arbiter h
  count s c k e h := by
    unfold State.countEdge
    dsimp only
    split
    · exact tablesInv_congr h rfl rfl rfl
    · exact h

/-! ## Events of the line -/

theorem tablesInv_carryOut {s : State} (hr : s.lc.retryLimit ≤ 15) (hf : s.Owned s.lc.inFlight) (h : s.TablesInv)
    (e : LineEvent) : (s.carryOut e).TablesInv := by
  have T := tasksKept_tables
  have ripen {t : State} (ht : t.TablesInv) : t.ripen.TablesInv := tablesInv_congr ht rfl rfl rfl
  have hand (c : TxCode) (l : List Byte) : (s.handInFlight c l).1.TablesInv := tablesInv_handInFlight h hr hf c l
  cases e with
  | attemptSettled c =>
    obtain ⟨ho₁, hc₁, hu₁, -⟩ := countAttempt_tables (s.handInFlight c s.responseList).1 c
    obtain ⟨ho₂, hc₂, hu₂, -⟩ := afterAttempt_tables ((s.handInFlight c s.responseList).1.countAttempt c) c
    exact ripen (T.settleTasks _ _ (tablesInv_congr (hand c s.responseList) (ho₂.trans ho₁) (hc₂.trans hc₁)
      (by rw [hu₂, hu₁])))
  | receiveError c =>
    obtain ⟨ho, hc, hu⟩ := countReceive_tables s c
    exact tablesInv_congr (tablesInv_breakVerdict (tablesInv_congr h ho hc (by rw [hu]))) rfl rfl rfl
  | eodPoint => exact tablesInv_reachEod h
  | crowded => exact tablesInv_congr (tablesInv_releaseVerdict h) rfl rfl rfl
  | frameEnd =>
    simp only [State.carryOut, State.endFrame]
    split
    · exact h
    · exact ripen (T.settleTasks _ _ (tablesInv_congr h rfl rfl rfl))
  | recoveryGap => exact ripen (tablesInv_arbiter (tablesInv_congr h rfl rfl rfl))
  | integration => exact ripen (tablesInv_arbiter (tablesInv_congr h rfl rfl rfl))
  | holdDetected => exact T.settleTasks _ _ (tablesInv_congr (tablesInv_breakVerdict (hand .hold [])) rfl rfl rfl)
  | persistenceMark =>
    simp only [State.carryOut, State.markPersistence]
    exact T.settleTasks _ _ (tablesInv_congr h rfl rfl rfl)
  | holdEnded => exact ripen (T.settleTasks _ _ (tablesInv_congr h rfl rfl rfl))
  | pulseEnds => exact ripen (tablesInv_arbiter (tablesInv_congr h rfl rfl rfl))
  | _ => exact tablesInv_congr h rfl rfl rfl

/-- The SOF of the choice held, a slot of which is PENDING (R54). -/
theorem tablesInv_driveSof {s : State} (hj : s.Joint) (h : s.TablesInv) {c : Candidate} (hc : s.sofReady = some c) :
    (s.driveSof c).TablesInv := by
  obtain ⟨-, -, x, hx, rfl⟩ := sofReady_some hc
  have hcand := (hj.2 x hx).2
  revert hcand
  cases x.candidate with
  | slot i =>
    intro hcand
    have hp : (s.slot i).state = .pending := by simpa [State.isCandidate] using hcand
    have hi := h.slots i
    exact tablesInv_congr (tablesInv_setSlot h i (x := { s.slot i with state := .sending })
      ⟨hi.losses, hi.deadline, hi.attempts, fun _ => hi.attempts_asked (.inl hp)⟩) rfl rfl rfl
  | obligation o => exact fun _ => tablesInv_congr h rfl rfl rfl
  | withdraw k => exact fun _ => tablesInv_congr h rfl rfl rfl

/-! ## Takings of host commands -/

theorem countsInv_slotContent {priority kind : Byte} {topic deadline : BitVec 16} {length : Byte}
    {payload : Vector Byte 8} {x : Slot} (h : slotContent priority kind topic deadline length payload = some x) :
    x.CountsInv := by
  have hd := deadline.isLt
  unfold slotContent at h
  split at h
  · cases h
  · dsimp only at h
    obtain ⟨-, hx⟩ := Option.ite_none_left_eq_some.mp h
    cases hx
    refine ⟨Nat.zero_le _, ?_, Nat.zero_le _, fun _ => Nat.zero_le _⟩
    dsimp only
    split <;> omega

theorem countsInv_slotReset : Slot.reset.CountsInv :=
  ⟨Nat.zero_le _, Nat.zero_le _, Nat.zero_le _, fun _ => Nat.zero_le _⟩

theorem tablesInv_leaveSlot {p : State × List Occurrence} (h : p.1.TablesInv) (i : Fin 8) :
    (leaveSlot p i).1.TablesInv := by
  have hi := h.slots i
  unfold leaveSlot
  dsimp only
  split
  iterate 2
    exact tablesInv_setSlot_arriveDone h i (y := { p.1.slot i with rerun := false, abort := false }) hi.losses
      hi.deadline hi.attempts .aborted []
  all_goals exact h

theorem tablesInv_leaveCall {p : State × List Occurrence} (h : p.1.TablesInv) (k : Fin 8) :
    (leaveCall p k).1.TablesInv := by
  unfold leaveCall
  split
  iterate 2 exact tablesInv_settleCall h k _
  all_goals exact h

theorem tablesInv_leaveObl {s : State} (h : s.TablesInv) (o : Fin 8) : (leaveObl s o).TablesInv := by
  unfold leaveObl
  split
  · exact h
  · exact tablesInv_congr (tablesInv_setObl h o countsInv_free) rfl rfl rfl

/-- What each turn keeps of the state, a fold with occurrences keeps. -/
theorem foldl_fst_keeps {α : Type} {P : State → Prop} (f : State × List Occurrence → α → State × List Occurrence)
    (hf : ∀ p a, P p.1 → P (f p a).1) (l : List α) (p : State × List Occurrence) (hp : P p.1) :
    P (l.foldl f p).1 := by
  induction l generalizing p with
  | nil => exact hp
  | cons a l ih => exact ih _ (hf p a hp)

theorem tablesInv_leave {s : State} (hs : s.lc.state ≠ .config) (ho : s.lc.state ≠ .offline) (h : s.TablesInv) :
    (takeLeave s).state.TablesInv := by
  have all (l : List (Fin 8)) : ((l.foldl leaveObl (l.foldl leaveCall
      ((l.foldl leaveSlot (s.setLc s.lc.left, [])).1, [])).1).setVerdict none).TablesInv := by
    have slots := foldl_fst_keeps (P := State.TablesInv) leaveSlot (fun p i hp => tablesInv_leaveSlot hp i) l
      (s.setLc s.lc.left, []) (tablesInv_congr h rfl rfl rfl)
    have calls := foldl_fst_keeps (P := State.TablesInv) leaveCall (fun p k hp => tablesInv_leaveCall hp k) l
      (_, []) slots
    have obls := foldl_keeps (P := State.TablesInv) leaveObl (fun t o ht => tablesInv_leaveObl ht o) l _ calls
    exact tablesInv_congr obls rfl rfl rfl
  rw [takeLeave_of_joined hs ho]
  exact all _

theorem Took.tablesInv {s t : State} (ht : Took s t) (h : s.TablesInv) : t.TablesInv := by
  have same {u : State} (ho : u.outbox = s.outbox) (hc : u.cu = s.cu) (he : u.ou.entries = s.ou.entries) :
      u.TablesInv := tablesInv_congr h ho hc he
  cases ht with
  | joinConfig => rw [applyImage_frame]; exact same rfl rfl rfl
  | leave hs ho => exact tablesInv_leave hs ho h
  | holdAssert => exact tablesInv_arbiter (same rfl rfl rfl)
  | holdRelease => exact tablesInv_arbiter (same rfl rfl rfl)
  | load kind index f _ hs ht => rw [loadEntry_frame ht]; exact same rfl rfl rfl
  | slotWrite priority kind topic deadline length payload x i hx =>
    exact tablesInv_setSlot h i (countsInv_slotContent hx)
  | slotRequest i => exact tablesInv_requestSlot h i
  | abortPending i => exact tablesInv_arbiter (tablesInv_arriveDone h i _ _)
  | abortSending i =>
    have hi := h.slots i
    exact tablesInv_setSlot h i ⟨hi.losses, hi.deadline, hi.attempts, hi.attempts_asked⟩
  | slotClear i => exact tablesInv_setSlot h i countsInv_slotReset
  | rxRelease r rest => split <;> exact same rfl rfl rfl
  | callWithdraw k =>
    have hk := h.calls k
    exact tablesInv_arbiter (tablesInv_setCall h k
      ⟨hk.deadline, hk.remaining, hk.fraction, Nat.zero_le _, fun _ => Nat.zero_le _⟩)
  | callClear k => exact tablesInv_releaseCall h k
  | oblFinish o status bytes => exact tablesInv_finishObl h o status bytes
  | oblDiscard o => exact tablesInv_arbiter (tablesInv_setObl h o countsInv_free)
  | arm r => rcases s.armReaction_eq r with e | ⟨x, e⟩ <;> rw [e] <;> exact same rfl rfl rfl
  | disarm r => rcases s.disarmReaction_eq r with e | ⟨x, e⟩ <;> rw [e] <;> exact same rfl rfl rfl
  | force r hs ha => exact tasksKept_tables.force s r hs ha h
  | trainStop g => rcases stopTrain_frame s g with e | ⟨x, e⟩ <;> rw [e] <;> exact same rfl rfl rfl
  | outputWrite lines levels => rw [writeOutputs_frame]; exact same rfl rfl rfl
  | _ => exact same rfl rfl rfl

theorem tablesInv_reset : State.reset.TablesInv where
  slots i := by
    have hi : State.reset.slot i = Slot.reset := by simp [State.reset, State.slot]
    rw [hi]
    exact countsInv_slotReset
  calls k := by
    have hk : State.reset.call k = CallEntry.freeWith 0 := by simp [State.reset, State.call]
    rw [hk]
    exact countsInv_freeWith 0
  obligations o := by
    have ho : State.reset.obl o = Obligation.free := by simp [State.reset, State.obl]
    rw [ho]
    exact countsInv_free

theorem PortStep.tablesInv {s t : State} (ht : PortStep s t) (h : s.TablesInv) : t.TablesInv := by
  rcases ht.hp_or_reset with ⟨x, rfl⟩ | ⟨held, hcsLow, x, rfl⟩
  · exact tablesInv_congr h rfl rfl rfl
  · exact tablesInv_congr tablesInv_reset rfl rfl rfl

/-! ## Time -/

/-- The fraction counts to 999, and the milliseconds that remain count down (R91). -/
theorem countsInv_callTick {e : CallEntry} (h : e.CountsInv) : e.tick.CountsInv := by
  unfold CallEntry.tick
  split
  · split
    next hf => exact ⟨h.deadline, h.remaining, Nat.le_of_lt_succ hf, h.attempts, h.attempts_owed⟩
    · split
      · exact ⟨h.deadline, (Nat.sub_le _ _).trans h.remaining, Nat.zero_le _, h.attempts, h.attempts_owed⟩
      · exact ⟨h.deadline, h.remaining, h.fraction, h.attempts, h.attempts_owed⟩
  · exact h

theorem tablesInv_tick {s : State} (inputs : Byte) (h : s.TablesInv) : (s.tick inputs).TablesInv where
  slots := h.slots
  calls k := by
    rw [call_tick]
    split
    · exact h.calls k
    · exact countsInv_callTick (h.calls k)
  obligations := h.obligations

theorem tablesInv_expired {s : State} (h : s.TablesInv) (k : Fin 8) :
    ((s.setCall k { s.call k with remaining := 0, fraction := 0 }).settleCall k .expired).TablesInv :=
  tablesInv_setCall_settleCall h k _ (h.calls k).deadline (Nat.zero_le _) (Nat.zero_le _) (h.calls k).attempts

/-! ## Rows -/

/-- What the counts of the tables rest on. -/
def State.CountsGround (s : State) : Prop := (s.LinkInv ∧ s.Joint) ∧ (s.LinkInv ∧ s.SettingsInv) ∧ s.lc.CountsInv

theorem rowsKept_countsGround : RowsKept State.CountsGround :=
  (rowsKept_linkCounts.under fun s => s.LinkInv ∧ s.Joint).and rowsKept_joint

theorem rowsKept_counts : RowsKept fun s => s.CountsGround ∧ s.TablesInv := by
  have T := tasksKept_tables
  refine RowsKeptWith.and ?_ rowsKept_countsGround
  exact
    { port := fun _ _ ht _ h => ht.tablesInv h
      command := fun c s _ h => command_keeps T (fun _ _ ht h => ht.tablesInv h)
        (fun _ _ h => tablesInv_congr h rfl rfl rfl) (fun _ _ ht h => ht.tablesInv h) c s h
      stale := fun _ _ _ _ _ h => tablesInv_congr h rfl rfl rfl
      carry := fun s e _ _ hg h => tablesInv_carryOut (s := s.setLc { s.lc with due := s.lc.due.erase e }) hg.2.2.retry_limit
        (owned_congr hg.1.2.1 rfl rfl rfl) (tablesInv_congr h rfl rfl rfl) e
      sof := fun _ _ hc hg h => tablesInv_driveSof hg.1.2 h hc
      edge := fun s k _ h => edgeInput_keeps T (fun _ _ h => tablesInv_congr h rfl rfl rfl) s k h
      timer := fun s t _ h => expireTimer_keeps T (fun _ _ h => tablesInv_congr h rfl rfl rfl) s t h
      lead := fun s g _ h => leadTrain_keeps T (fun _ _ h => tablesInv_congr h rfl rfl rfl)
        (fun _ _ h => tablesInv_congr h rfl rfl rfl) s g h
      trail := fun s g _ h => trailTrain_keeps T (fun _ _ h => tablesInv_congr h rfl rfl rfl)
        (fun _ _ h => tablesInv_congr h rfl rfl rfl) s g h
      call := fun s k _ h => expireCall_keeps T (fun _ k _ h => tablesInv_expired h k) s k h
      tick := fun _ inputs _ h => tablesInv_tick inputs h
      readBit := fun s level _ _ _ h => by
        rw [readBit_eq]
        exact tablesInv_congr h rfl rfl rfl }

theorem countsInv_iff (s : State) : s.CountsInv ↔ s.SettingsInv ∧ s.lc.CountsInv ∧ s.TablesInv :=
  ⟨fun h => ⟨⟨h.image, h.fires⟩, h.link, h.slots, h.calls, h.obligations⟩,
    fun ⟨hs, hl, ht⟩ => ⟨hl, hs.image, ht.slots, ht.calls, ht.obligations, hs.fires⟩⟩

theorem countsGround_congr {s t : State} (h : s.CountsGround) (ht : t = { s with pending := t.pending }) :
    t.CountsGround := by
  obtain ⟨⟨hl, hj⟩, ⟨-, hs⟩, hc⟩ := h
  rw [ht]
  exact ⟨⟨linkInv_congr hl rfl, joint_congr hj rfl rfl rfl rfl⟩, ⟨linkInv_congr hl rfl, settingsInv_congr hs rfl rfl⟩, hc⟩

/-- Settles O58: the Receive Queue and the port by their own invariants, the counts with the joint invariant, by
which a slot, a call or an obligation in flight has attempts left. -/
theorem stepKeepsQueueCountsAndPort : Obligations.StepKeepsQueueCountsAndPort := by
  refine ⟨fun s t hq hp hs => ⟨?_, ?_⟩, fun s t hl hc hb hm hn hs => ?_⟩
  · exact rowsKept_queue.step (fun _ _ h => queueInv_congr h rfl rfl) hq hs
  · exact rowsKept_port.step (fun _ _ h => portInv_congr h rfl) hp hs
  · obtain ⟨hi, hlink, htables⟩ := (countsInv_iff s).mp hn
    have ground : s.CountsGround := ⟨⟨hl, (owned_iff s).mpr ⟨hc, hb, hm⟩⟩, ⟨hl, hi⟩, hlink⟩
    obtain ⟨⟨-, ⟨-, hi'⟩, hlink'⟩, htables'⟩ := rowsKept_counts.step
      (fun _ _ h => ⟨countsGround_congr h.1 rfl, tablesInv_congr h.2 rfl rfl rfl⟩) ⟨ground, htables⟩ hs
    exact (countsInv_iff t).mpr ⟨hi', hlink', htables'⟩

end Sys2Proof.Machine
end

section
/-! SUPPORT. Numbers as bits, and the fields of a frame that a station can send (R5 to R10). -/

namespace Sys2Proof.Machine

/-! ## Numbers and their bits -/

@[simp] theorem length_bitsOf (n x : Nat) : (bitsOf n x).length = n := by
  induction n with
  | zero => rfl
  | succ n ih => rw [bitsOf, List.length_cons, ih]

theorem foldl_bits (l : List Bool) (a : Nat) :
    l.foldl (fun n b => 2 * n + b.toNat) a = a * 2 ^ l.length + natOf l := by
  induction l generalizing a with
  | nil => simp [natOf]
  | cons b l ih =>
    have hb : natOf (b :: l) = (2 * 0 + b.toNat) * 2 ^ l.length + natOf l := by
      rw [natOf, List.foldl_cons, ih]
    rw [List.foldl_cons, ih, hb, List.length_cons, pow_succ]
    ring

theorem natOf_cons (b : Bool) (l : List Bool) : natOf (b :: l) = b.toNat * 2 ^ l.length + natOf l := by
  rw [natOf, List.foldl_cons, foldl_bits, Nat.mul_zero, Nat.zero_add]

theorem natOf_lt (l : List Bool) : natOf l < 2 ^ l.length := by
  induction l with
  | nil => exact Nat.one_pos
  | cons b l ih =>
    rw [natOf_cons, List.length_cons, pow_succ]
    cases b <;> simp <;> omega

/-- Bits spell the number they were taken from, as far as they go. -/
theorem natOf_bitsOf (n x : Nat) : natOf (bitsOf n x) = x % 2 ^ n := by
  induction n with
  | zero => rw [pow_zero, Nat.mod_one]; rfl
  | succ n ih => rw [bitsOf, natOf_cons, ih, length_bitsOf, Nat.mod_pow_succ, Nat.add_comm, Nat.mul_comm, Nat.toNat_testBit]

theorem bitsOf_congr {n x y : Nat} (h : ∀ i, i < n → x.testBit i = y.testBit i) : bitsOf n x = bitsOf n y := by
  induction n with
  | zero => rfl
  | succ n ih =>
    rw [bitsOf, bitsOf, h n (Nat.lt_succ_self n), ih fun i hi => h i (Nat.lt_succ_of_lt hi)]

/-- The bits of a number, its high part before its low part. -/
theorem bitsOf_add (m n x : Nat) : bitsOf (m + n) x = bitsOf m (x / 2 ^ n) ++ bitsOf n x := by
  induction m with
  | zero => rw [Nat.zero_add]; rfl
  | succ m ih =>
    rw [show m + 1 + n = m + n + 1 by omega, bitsOf, ih, bitsOf, Nat.testBit_div_two_pow, List.cons_append]

theorem bitsOf_mul_add (m n x : Nat) {y : Nat} (h : y < 2 ^ n) :
    bitsOf (m + n) (x * 2 ^ n + y) = bitsOf m x ++ bitsOf n y := by
  have hdiv : (x * 2 ^ n + y) / 2 ^ n = x := by
    rw [Nat.add_comm, Nat.add_mul_div_right _ _ (Nat.two_pow_pos n), Nat.div_eq_of_lt h, Nat.zero_add]
  rw [bitsOf_add, hdiv]
  refine congrArg _ (bitsOf_congr fun i hi => ?_)
  rw [Nat.mul_comm, Nat.testBit_two_pow_mul_add x h i, if_pos hi]

/-- Of two lists of bits, the lower one has 0 where they first differ, and the higher one 1. -/
theorem exists_first_difference {a b : List Bool} (hl : a.length = b.length) (h : natOf a < natOf b) :
    ∃ j, a.take j = b.take j ∧ a[j]? = some false ∧ b[j]? = some true := by
  induction a generalizing b with
  | nil =>
    cases b with
    | nil => exact absurd h (Nat.lt_irrefl _)
    | cons y b => cases hl
  | cons x a ih =>
    cases b with
    | nil => cases hl
    | cons y b =>
      have hlen : a.length = b.length := Nat.succ.inj hl
      have ha := natOf_lt a
      have hb := natOf_lt b
      rw [natOf_cons, natOf_cons] at h
      rw [hlen] at ha h
      by_cases hxy : x = y
      · subst hxy
        obtain ⟨j, ht, hx, hy⟩ := ih hlen (Nat.lt_of_add_lt_add_left h)
        exact ⟨j + 1, by rw [List.take_succ_cons, List.take_succ_cons, ht], hx, hy⟩
      · cases x with
        | false =>
          cases y with
          | false => exact absurd rfl hxy
          | true => exact ⟨0, rfl, rfl, rfl⟩
        | true =>
          cases y with
          | true => exact absurd rfl hxy
          | false => simp at h; omega

/-! ## Fields -/

theorem field_take {l : List Bool} {m start n : Nat} (h : start + n ≤ m) :
    field (l.take m) start n = field l start n := by
  unfold field
  rw [List.drop_take, List.take_take, Nat.min_eq_left (by omega)]

/-- The field that a number's bits fill. -/
theorem field_first {l : List Bool} {start n v : Nat} (h : start = 0) : field (bitsOf n v ++ l) start n = v % 2 ^ n := by
  unfold field
  rw [h, List.drop_zero, List.take_left' (length_bitsOf n v), natOf_bitsOf]

/-- A field past the bits of another one. -/
theorem field_past {a l : List Bool} {start m n : Nat} (ha : a.length = m) (h : m ≤ start) :
    field (a ++ l) start n = field l (start - m) n := by
  unfold field
  rw [List.drop_append, ha, List.drop_eq_nil_of_le (by omega), List.nil_append]

theorem field_rest {l : List Bool} {start m n v : Nat} (h : m ≤ start) :
    field (bitsOf m v ++ l) start n = field l (start - m) n := field_past (length_bitsOf m v) h

/-! ## The header and data bits of a frame -/

/-- Header and data bits, before the check. -/
def RxFrame.body (x : RxFrame) : List Bool :=
  headerBits x.priority x.kind x.topic x.source x.data.length ++ (x.data.map fun d => bitsOf 8 d.toNat).flatten

/-- How many they are. -/
def RxFrame.bodyLength (x : RxFrame) : Nat := 28 + 8 * x.data.length

theorem bits_eq (x : RxFrame) : x.bits = x.body ++ bitsOf 16 (crcOf x.body).toNat := rfl

theorem length_dataBits (l : List Byte) : (l.map fun d => bitsOf 8 d.toNat).flatten.length = 8 * l.length := by
  induction l with
  | nil => rfl
  | cons d l ih =>
    rw [List.map_cons, List.flatten_cons, List.length_append, length_bitsOf, ih, List.length_cons]
    omega

@[simp] theorem length_body (x : RxFrame) : x.body.length = x.bodyLength := by
  rw [RxFrame.body, List.length_append, length_dataBits]
  simp [headerBits, RxFrame.bodyLength]

@[simp] theorem length_bits (x : RxFrame) : x.bits.length = x.bodyLength + 16 := by
  rw [bits_eq, List.length_append, length_body, length_bitsOf]

section
variable (x : RxFrame)

theorem body_eq : x.body = bitsOf 3 x.priority.toNat ++ (bitsOf 3 x.kind.code ++ (bitsOf 12 x.topic.toNat
    ++ (bitsOf 6 x.source.toNat ++ (bitsOf 4 x.data.length
      ++ (x.data.map fun d => bitsOf 8 d.toNat).flatten)))) := by
  simp only [RxFrame.body, headerBits, List.append_assoc]

theorem field_priority : field x.body 0 3 = x.priority.toNat := by
  rw [body_eq, field_first rfl]
  exact Nat.mod_eq_of_lt x.priority.isLt

theorem field_kind : field x.body 3 3 = x.kind.code := by
  rw [body_eq, field_rest (by decide), field_first rfl]
  cases x.kind <;> rfl

theorem field_topic : field x.body 6 12 = x.topic.toNat := by
  rw [body_eq, field_rest (by decide), field_rest (by decide), field_first rfl]
  exact Nat.mod_eq_of_lt x.topic.isLt

/-- The upper half of the topic field, the caller of a call tag. -/
theorem field_caller : field x.body 6 6 = x.topic.toNat / 64 := by
  rw [body_eq, field_rest (by decide), field_rest (by decide), bitsOf_add 6 6, List.append_assoc, field_first rfl]
  have := x.topic.isLt
  omega

theorem field_source : field x.body 18 6 = x.source.toNat := by
  rw [body_eq, field_rest (by decide), field_rest (by decide), field_rest (by decide), field_first rfl]
  exact Nat.mod_eq_of_lt x.source.isLt

theorem field_length (h : x.data.length ≤ 8) : field x.body 24 4 = x.data.length := by
  rw [body_eq, field_rest (by decide), field_rest (by decide), field_rest (by decide), field_rest (by decide),
    field_first rfl]
  omega

/-- A data byte with the bits before it and after it. -/
theorem body_split {n : Nat} (h : n < x.data.length) : ∃ a b, x.body = a ++ (bitsOf 8 x.data[n].toNat ++ b)
    ∧ a.length = 28 + 8 * n := by
  refine ⟨headerBits x.priority x.kind x.topic x.source x.data.length
      ++ ((x.data.take n).map fun d => bitsOf 8 d.toNat).flatten,
    ((x.data.drop (n + 1)).map fun d => bitsOf 8 d.toNat).flatten, ?_, ?_⟩
  · have hd : x.data = x.data.take n ++ x.data[n] :: x.data.drop (n + 1) := by simp
    have hbits : (x.data.map fun d => bitsOf 8 d.toNat).flatten = ((x.data.take n).map fun d => bitsOf 8 d.toNat).flatten
        ++ (bitsOf 8 x.data[n].toNat ++ ((x.data.drop (n + 1)).map fun d => bitsOf 8 d.toNat).flatten) := by
      conv_lhs => rw [hd]
      rw [List.map_append, List.flatten_append, List.map_cons, List.flatten_cons]
    rw [RxFrame.body, hbits, List.append_assoc]
  · rw [List.length_append, length_dataBits, List.length_take, Nat.min_eq_left (Nat.le_of_lt h)]
    simp [headerBits]

theorem field_data {n : Nat} (h : n < x.data.length) : field x.body (28 + 8 * n) 8 = x.data[n].toNat := by
  obtain ⟨a, b, hb, ha⟩ := body_split x h
  rw [hb, field_past ha (Nat.le_refl _), field_first (Nat.sub_self _)]
  exact Nat.mod_eq_of_lt x.data[n].isLt

/-- The two low bits of the first data byte, the spare bits of a call reference. -/
theorem field_spare (h : 0 < x.data.length) : field x.body 34 2 = x.data[0].toNat % 4 := by
  obtain ⟨a, b, hb, ha⟩ := body_split x h
  rw [hb, field_past ha (by decide), bitsOf_add 6 2, List.append_assoc, field_rest (by decide), field_first rfl]
  rfl

end

/-! ## What a receiver makes of the bits -/

theorem kindOf_body (x : RxFrame) : kindOf x.body = some x.kind := by
  rw [kindOf, field_kind]
  cases x.kind <;> rfl

theorem dataOf_body (x : RxFrame) : dataOf x.body x.data.length = x.data := by
  have upto (n : Nat) (hn : n ≤ x.data.length) : dataOf x.body n = x.data.take n := by
    induction n with
    | zero => rfl
    | succ n ih =>
      rw [dataOf, ih (Nat.le_of_succ_le hn), field_data x hn, BitVec.ofNat_toNat, BitVec.setWidth_eq,
        List.take_add_one, List.getElem?_eq_getElem hn]
      rfl
  rw [upto _ (Nat.le_refl _), List.take_length]

namespace RxFrame.Sendable
variable {x : RxFrame} (h : x.Sendable)
include h

theorem length_le : x.data.length ≤ 8 := by
  have hl := h.length
  refine Nat.not_lt.mp fun hn => ?_
  have hfalse : legalLength x.kind x.data.length = false := by
    rw [legalLength_eq_false]
    generalize x.data.length = n at hn
    cases x.kind <;> simp <;> omega
  rw [hfalse] at hl
  cases hl

theorem lengthOf_body : lengthOf x.body = x.data.length := field_length x h.length_le

/-- No test of a receiver finds the frame illegal (R5 to R9). -/
theorem legalAt_take {n : Nat} (hn : n ≤ x.bodyLength) : legalAt (x.body.take n) n = true := by
  refine Bool.eq_true_of_not_eq_false fun hf => ?_
  have hkind : x.kind.code ≤ 3 := by cases x.kind <;> decide
  rcases legalAt_eq_false.mp hf with ⟨rfl, hx⟩ | ⟨rfl, hk, hx⟩ | ⟨rfl, hx⟩ | ⟨rfl, hx⟩ | ⟨rfl, hk, hx⟩
  · rw [field_take (by decide), field_kind] at hx
    omega
  · rw [field_take (by decide), field_kind] at hk
    rw [field_take (by decide), field_caller] at hx
    have hdone : x.kind = .done ∨ x.kind = .withdraw := by
      revert hk
      cases x.kind <;> simp [FrameKind.code]
    refine h.tag hdone (BitVec.eq_of_toNat_eq ?_)
    have := x.topic.isLt
    simp only [CallTag.ofTopic, BitVec.extractLsb'_toNat, Nat.shiftRight_eq_div_pow]
    rw [show (2 : Nat) ^ 6 = 64 from rfl, hx]
    rfl
  · rw [field_take (by decide), field_source] at hx
    exact h.source (BitVec.eq_of_toNat_eq hx)
  · have hlen : (legalLength x.kind x.data.length) = true := h.length
    rw [field_take (by decide), field_take (by decide), field_kind, field_length x h.length_le] at hx
    have hfalse : legalLength x.kind x.data.length = false := by
      rw [legalLength_eq_false]
      revert hx
      cases x.kind <;> simp [FrameKind.code]
    rw [hfalse] at hlen
    cases hlen
  · rw [field_take (by decide), field_kind] at hk
    have hcall : x.kind = .call := by
      revert hk
      cases x.kind <;> simp [FrameKind.code]
    have hpos : 0 < x.data.length := by
      unfold RxFrame.bodyLength at hn
      omega
    rw [field_take (by decide), field_spare x hpos] at hx
    have href := congrArg BitVec.toNat (h.reference hcall)
    have hhead : x.data.headD 0 = x.data[0] := by
      rw [List.headD_eq_head?_getD, List.head?_eq_getElem?, List.getElem?_eq_getElem hpos]
      rfl
    rw [hhead] at href
    exact hx (by simpa [BitVec.extractLsb'_toNat] using href)

end RxFrame.Sendable

end Sys2Proof.Machine
end

section
/-! SUPPORT. A station that reads a frame bit by bit, from its header to its EOD (R3, R5 to R10). -/

namespace Sys2Proof.Machine

/-! ## Where a station stands in a frame -/

/-- The element of the next bit, `k` bits of frame `x` read. -/
def RxFrame.elemAt (x : RxFrame) (k : Nat) : Elem :=
  if k < 28 then .header else if k < x.bodyLength then .data else if k < x.bodyLength + 16 then .check else .eod

/-- The bits read of that element. -/
def RxFrame.countAt (x : RxFrame) (k : Nat) : Nat :=
  if k < 28 then k else if k < x.bodyLength then k - 28 else if k < x.bodyLength + 16 then k - x.bodyLength else 0

/-- The frame in progress, with `k` bits of frame `x` read. -/
def Frame.having (f : Frame) (x : RxFrame) (k : Nat) : Frame := { f with
  elem := x.elemAt k
  count := x.countAt k
  bits := x.body.take k
  check := (bitsOf 16 (crcOf x.body).toNat).take (k - x.bodyLength)
  crc := crcOf (x.body.take k) }

theorem having_self {f : Frame} {x : RxFrame} {k : Nat} (helem : f.elem = x.elemAt k) (hcount : f.count = x.countAt k)
    (hbits : f.bits = x.body.take k)
    (hcheck : f.check = (bitsOf 16 (crcOf x.body).toNat).take (k - x.bodyLength))
    (hcrc : f.crc = crcOf (x.body.take k)) : f.having x k = f := by
  rw [Frame.having, ← helem, ← hcount, ← hcheck, ← hcrc, ← hbits]

section
variable {f : Frame}

theorem advance_of_header (he : f.elem = .header) : f.advance = { f with
    elem := if f.count < 28 then .header else if lengthOf f.bits = 0 then .check else .data
    count := if f.count < 28 then f.count else 0 } := by
  simp only [Frame.advance, he, Frame.enter]
  split
  · rw [← he]
  · split <;> rfl

theorem advance_of_data (he : f.elem = .data) : f.advance = { f with
    elem := if f.count < 8 * lengthOf f.bits then .data else .check
    count := if f.count < 8 * lengthOf f.bits then f.count else 0 } := by
  simp only [Frame.advance, he, Frame.enter]
  split
  · rw [← he]
  · rfl

theorem advance_of_check (he : f.elem = .check) (h : 16 ≤ f.count → natOf f.check = f.crc.toNat) :
    f.advance = { f with
      elem := if f.count < 16 then .check else .eod
      count := if f.count < 16 then f.count else 0
      run := if f.count < 16 then f.run else if f.run = 5 then 5 else 0 } := by
  simp only [Frame.advance, he, Frame.enter, stuffAt]
  split
  · rw [← he]
  next hn =>
    rw [if_neg fun hx => hx.2 (h (Nat.not_lt.mp hn))]
    rfl

theorem takeBit_of_body {read : Level} (he : f.elem = .header ∨ f.elem = .data)
    (h : legalAt (f.bits ++ [read.bit]) (f.bits ++ [read.bit]).length = true) :
    f.takeBit read = (f.withBit read).advance := by
  have hc : f.elem ≠ .check := by rcases he with he | he <;> simp [he]
  unfold Frame.takeBit
  rw [if_neg hc]
  refine if_neg fun hx => ?_
  rw [h] at hx
  cases hx.2

theorem takeBit_of_check {read : Level} (he : f.elem = .check) : f.takeBit read
    = Frame.advance { f.counted read with count := f.count + 1, check := f.check ++ [read.bit] } := by
  unfold Frame.takeBit
  rw [if_pos he]

end

theorem bit_ofBit (b : Bool) : (Level.ofBit b).bit = b := by cases b <;> rfl

theorem crcOf_concat (l : List Bool) (b : Bool) : crcOf (l ++ [b]) = crcStep (crcOf l) b := by
  simp [crcOf, List.foldl_append]

/-- The run count after a content bit: the check's last bit ends the sequence, but for a stuff bit that is due. -/
def RxFrame.runAt (x : RxFrame) (k run : Nat) : Nat :=
  if k < x.bodyLength + 16 then run else if run = 5 then 5 else 0

section
variable {f : Frame} {x : RxFrame} {k : Nat} {b : Bool}

theorem elemAt_header (h : k < 28) : x.elemAt k = .header := if_pos h

theorem elemAt_data (h : 28 ≤ k) (hb : k < x.bodyLength) : x.elemAt k = .data := by
  rw [RxFrame.elemAt, if_neg (Nat.not_lt.mpr h), if_pos hb]

theorem elemAt_check (h : x.bodyLength ≤ k) (hk : k < x.bodyLength + 16) : x.elemAt k = .check := by
  have h28 : 28 ≤ x.bodyLength := Nat.le_add_right _ _
  rw [RxFrame.elemAt, if_neg (by omega), if_neg (by omega), if_pos hk]

theorem countAt_header (h : k < 28) : x.countAt k = k := if_pos h

theorem countAt_data (h : 28 ≤ k) (hb : k < x.bodyLength) : x.countAt k = k - 28 := by
  rw [RxFrame.countAt, if_neg (Nat.not_lt.mpr h), if_pos hb]

theorem countAt_check (h : x.bodyLength ≤ k) (hk : k < x.bodyLength + 16) : x.countAt k = k - x.bodyLength := by
  have h28 : 28 ≤ x.bodyLength := Nat.le_add_right _ _
  rw [RxFrame.countAt, if_neg (by omega), if_neg (by omega), if_pos hk]

variable (hf : f.having x k = f)
include hf

theorem elem_of_having : f.elem = x.elemAt k := (congrArg Frame.elem hf).symm

theorem count_of_having : f.count = x.countAt k := (congrArg Frame.count hf).symm

theorem bits_of_having : f.bits = x.body.take k := (congrArg Frame.bits hf).symm

theorem check_of_having : f.check = (bitsOf 16 (crcOf x.body).toNat).take (k - x.bodyLength) :=
  (congrArg Frame.check hf).symm

theorem crc_of_having : f.crc = crcOf (x.body.take k) := (congrArg Frame.crc hf).symm

variable (hx : x.Sendable) (hb : x.bits[k]? = some b)
include hx hb

/-- A header or data bit read. -/
theorem takeBit_having_body (hbody : k < x.bodyLength) : f.takeBit (Level.ofBit b)
    = (f.counted (Level.ofBit b)).having x (k + 1) := by
  have h28 : 28 ≤ x.bodyLength := Nat.le_add_right _ _
  have hlen : x.bodyLength = 28 + 8 * x.data.length := rfl
  have hbits : f.bits ++ [(Level.ofBit b).bit] = x.body.take (k + 1) := by
    rw [bits_eq, List.getElem?_append_left (by rwa [length_body])] at hb
    rw [bit_ofBit, bits_of_having hf, List.take_add_one, hb]
    rfl
  have hcrc : crcStep f.crc (Level.ofBit b).bit = crcOf (x.body.take (k + 1)) := by
    rw [← hbits, crcOf_concat, bits_of_having hf, crc_of_having hf]
  have hcheck : f.check = (bitsOf 16 (crcOf x.body).toNat).take (k + 1 - x.bodyLength) := by
    rw [check_of_having hf, Nat.sub_eq_zero_of_le hbody, Nat.sub_eq_zero_of_le (Nat.le_of_lt hbody)]
  have hlegal : legalAt (f.bits ++ [(Level.ofBit b).bit]) (f.bits ++ [(Level.ofBit b).bit]).length = true := by
    rw [hbits, List.length_take, length_body, Nat.min_eq_left hbody]
    exact hx.legalAt_take hbody
  have hlength (hn : 28 ≤ k + 1) : lengthOf (f.bits ++ [(Level.ofBit b).bit]) = x.data.length := by
    rw [hbits, lengthOf, field_take (by omega)]
    exact hx.lengthOf_body
  have having {e : Elem} {n : Nat} (he : e = x.elemAt (k + 1)) (hn : n = x.countAt (k + 1)) :
      { f.withBit (Level.ofBit b) with elem := e, count := n } = (f.counted (Level.ofBit b)).having x (k + 1) :=
    (having_self (f := { f.withBit (Level.ofBit b) with elem := e, count := n }) he hn hbits hcheck hcrc).symm
  have hcount := count_of_having hf
  by_cases hhead : k < 28
  · have he : f.elem = .header := (elem_of_having hf).trans (elemAt_header hhead)
    rw [takeBit_of_body (.inl he) hlegal, advance_of_header (f := f.withBit _) he]
    rw [countAt_header hhead] at hcount
    refine having ?_ ?_
    · simp only [Frame.withBit, hcount, RxFrame.elemAt]
      grind
    · simp only [Frame.withBit, hcount, RxFrame.countAt]
      grind
  · have he : f.elem = .data := (elem_of_having hf).trans (elemAt_data (Nat.not_lt.mp hhead) hbody)
    rw [takeBit_of_body (.inr he) hlegal, advance_of_data (f := f.withBit _) he]
    rw [countAt_data (Nat.not_lt.mp hhead) hbody] at hcount
    refine having ?_ ?_
    · simp only [Frame.withBit, hcount, hlength (by omega), RxFrame.elemAt]
      grind
    · simp only [Frame.withBit, hcount, hlength (by omega), RxFrame.countAt]
      grind

omit hx in
/-- A bit of the check read. -/
theorem takeBit_having_check (hbody : x.bodyLength ≤ k) : f.takeBit (Level.ofBit b) = Frame.having
    { f.counted (Level.ofBit b) with run := x.runAt (k + 1) (f.counted (Level.ofBit b)).run } x (k + 1) := by
  have h28 : 28 ≤ x.bodyLength := Nat.le_add_right _ _
  have hk : k < x.bodyLength + 16 := by
    have := (List.getElem?_eq_some_iff.mp hb).1
    rwa [length_bits] at this
  have he : f.elem = .check := (elem_of_having hf).trans (elemAt_check hbody hk)
  have hcount : f.count = k - x.bodyLength := (count_of_having hf).trans (countAt_check hbody hk)
  have hbits : f.bits = x.body.take (k + 1) := by
    rw [bits_of_having hf, List.take_of_length_le (by rwa [length_body]),
      List.take_of_length_le (by rw [length_body]; omega)]
  have hcrc : f.crc = crcOf (x.body.take (k + 1)) := by
    rw [← hbits, bits_of_having hf, crc_of_having hf]
  have hcheck : f.check ++ [(Level.ofBit b).bit]
      = (bitsOf 16 (crcOf x.body).toNat).take (k + 1 - x.bodyLength) := by
    rw [bits_eq, List.getElem?_append_right (by rwa [length_body]), length_body] at hb
    rw [bit_ofBit, check_of_having hf, Nat.sub_add_comm hbody, List.take_add_one, hb]
    rfl
  have hagrees (hn : 16 ≤ f.count + 1) : natOf (f.check ++ [(Level.ofBit b).bit]) = f.crc.toNat := by
    rw [hcheck, hcrc, List.take_of_length_le (by rw [length_bitsOf]; omega),
      List.take_of_length_le (by rw [length_body]; omega), natOf_bitsOf]
    exact Nat.mod_eq_of_lt (crcOf x.body).isLt
  have having {e : Elem} {n r : Nat} (he : e = x.elemAt (k + 1)) (hn : n = x.countAt (k + 1))
      (hr : r = x.runAt (k + 1) (f.counted (Level.ofBit b)).run) :
      { f.counted (Level.ofBit b) with elem := e, count := n, check := f.check ++ [(Level.ofBit b).bit], run := r }
        = Frame.having { f.counted (Level.ofBit b) with run := x.runAt (k + 1) (f.counted (Level.ofBit b)).run } x
          (k + 1) := by
    rw [← hr]
    exact (having_self (f := { f.counted (Level.ofBit b) with
      elem := e, count := n, check := f.check ++ [(Level.ofBit b).bit], run := r }) he hn hbits hcheck hcrc).symm
  rw [takeBit_of_check he, advance_of_check (f := { f.counted (Level.ofBit b) with
    count := f.count + 1, check := f.check ++ [(Level.ofBit b).bit] }) he hagrees]
  refine having ?_ ?_ ?_
  · simp only [hcount, RxFrame.elemAt]
    grind
  · simp only [hcount, RxFrame.countAt]
    grind
  · simp only [hcount, RxFrame.runAt]
    grind

end

/-- The next bit read, at a station in step: one bit more of the frame is read. -/
theorem takeBit_having {f : Frame} {x : RxFrame} (hx : x.Sendable) {k : Nat} {b : Bool} (hb : x.bits[k]? = some b)
    (hf : f.having x k = f) : f.takeBit (Level.ofBit b) = Frame.having
      { f.counted (Level.ofBit b) with run := x.runAt (k + 1) (f.counted (Level.ofBit b)).run } x (k + 1) := by
  by_cases hbody : k < x.bodyLength
  · rw [takeBit_having_body hf hx hb hbody, RxFrame.runAt, if_pos (by omega)]
  · exact takeBit_having_check hf hb (Nat.not_lt.mp hbody)

end Sys2Proof.Machine
end

section
/-! SUPPORT. Two stations in step through header, data and check of one frame (R1 to R3, R13, R21). -/

namespace Sys2Proof.Machine

/-! ## A bit that brings about nothing but settlements (R21) -/

/-- The frame after a bit read at that level: its codes have settled at a recessive one. -/
def Frame.settled (f : Frame) (read : Level) : Frame :=
  if read = .recessive then { f with txCode := none, rxCode := none } else f

/-- The codes that settle at a bit of that level. -/
def Frame.shown (f : Frame) (read : Level) : List LineEvent := if read = .recessive then f.settling else []

section
variable (f : Frame) (read : Level)

@[simp] theorem settled_role : (f.settled read).role = f.role := by cases read <;> rfl

@[simp] theorem settled_elem : (f.settled read).elem = f.elem := by cases read <;> rfl

@[simp] theorem settled_count : (f.settled read).count = f.count := by cases read <;> rfl

@[simp] theorem settled_run : (f.settled read).run = f.run := by cases read <;> rfl

@[simp] theorem settled_last : (f.settled read).last = f.last := by cases read <;> rfl

@[simp] theorem settled_bits : (f.settled read).bits = f.bits := by cases read <;> rfl

@[simp] theorem settled_toSend : (f.settled read).toSend = f.toSend := by cases read <;> rfl

/-- A code has settled, or it still waits. -/
theorem shown_settled : f.shown read ++ (f.settled read).settling = f.settling := by
  cases read with
  | dominant => rfl
  | recessive => exact List.append_nil _

end

theorem bit_of_readBit {f g : Frame} {read : Level} (hs : f.stopped = false) (h : f.readBit read = (g, [])) :
    f.bit read = (g.settled read, g.shown read) := by
  cases read with
  | dominant => rw [bit_of_dominant hs, h]; rfl
  | recessive =>
    rw [bit_of_recessive hs, h]
    exact Prod.ext rfl (List.append_nil _)

theorem lineLevel_of_recessive {a b : Level} (h : b = a ∨ b = .recessive) : lineLevel a b = a := by
  rcases h with h | h
  all_goals
    rw [h]
    cases a <;> rfl

theorem pairBit_of_readBit {p : Pair} {f g : Frame} {read : Level}
    (hl : lineLevel p.first.drive p.second.drive = read) (hs : p.first.stopped = false ∧ p.second.stopped = false)
    (hf : p.first.readBit read = (f, [])) (hg : p.second.readBit read = (g, [])) : p.bit = {
      first := f.settled read
      second := g.settled read
      firstEvents := p.firstEvents ++ f.shown read
      secondEvents := p.secondEvents ++ g.shown read } := by
  simp only [Pair.bit, hl, bit_of_readBit hs.1 hf, bit_of_readBit hs.2 hg]

/-! ## One station -/

/-- A station that takes part in frame `x` and has read `k` bits of it clean. -/
structure Frame.Attends (f : Frame) (x : RxFrame) (k : Nat) : Prop where
  content : f.having x k = f
  running : f.stopped = false
  whole : f.rxCode = none
  apart : f.responder = .absent
  unanswered : f.responses = []

theorem attends_settled {f : Frame} {x : RxFrame} {k : Nat} (h : f.Attends x k) (read : Level) :
    (f.settled read).Attends x k := by
  cases read with
  | dominant => exact h
  | recessive =>
    refine ⟨?_, h.running, rfl, h.apart, h.unanswered⟩
    exact congrArg (fun g : Frame => { g with txCode := none, rxCode := none }) h.content

/-- A station with the next bit of frame `x` read, and sent where it is the transmitter. -/
def Frame.reading (f : Frame) (x : RxFrame) (k : Nat) (b : Bool) : Frame :=
  Frame.having { f.counted (Level.ofBit b) with
    run := x.runAt (k + 1) (f.counted (Level.ofBit b)).run, toSend := f.toSend.tail } x (k + 1)

theorem elem_content {x : RxFrame} {k : Nat} (hk : k < x.bodyLength + 16) :
    x.elemAt k = .header ∨ x.elemAt k = .data ∨ x.elemAt k = .check := by
  unfold RxFrame.elemAt
  grind

theorem runAt_le (x : RxFrame) (k run : Nat) : x.runAt k run ≤ run := by
  unfold RxFrame.runAt
  split
  · exact Nat.le_refl _
  · split <;> omega

theorem counted_run_le (f : Frame) (read : Level) : (f.counted read).run ≤ f.run + 1 := by
  unfold Frame.counted
  dsimp only
  split <;> omega

theorem contentBit_of_sent {f : Frame} {read : Level} (hr : f.role = .transmitter) (hs : f.sends = read) :
    f.contentBit read = Frame.takeBit { f with toSend := f.toSend.tail } read := by
  unfold Frame.contentBit
  split
  next h => cases hr.symm.trans h
  · exact if_pos hs

namespace Frame.Attends
variable {f : Frame} {x : RxFrame} {k : Nat} (h : f.Attends x k)
include h

theorem elem : f.elem = x.elemAt k := elem_of_having h.content

theorem reading (b : Bool) : (f.reading x k b).Attends x (k + 1) :=
  ⟨rfl, h.running, h.whole, h.apart, h.unanswered⟩

theorem withRun (run : Nat) (last : Level) : Frame.Attends { f with run := run, last := last } x k :=
  ⟨congrArg (fun g : Frame => { g with run := run, last := last }) h.content, h.running, h.whole, h.apart,
    h.unanswered⟩

/-- Until the check is over a stuff bit leads no further. -/
theorem readBit_stuff (hk : k < x.bodyLength + 16) (h5 : f.run = 5) :
    f.readBit (opposite f.last) = (f.withStuffBit (opposite f.last), []) := by
  rw [readBit_of_stuff h5 (opposite_ne _)]
  have he := elem_content hk
  rw [← h.elem] at he
  rcases he with he | he | he <;> simp only [Frame.stuffed, he, Frame.withStuffBit]

/-- A bit read that a transmitter sent. -/
theorem readBit_content (hx : x.Sendable) {b : Bool} (hb : x.bits[k]? = some b) (h5 : f.run ≠ 5)
    (hsend : f.role = .receiver ∧ f.toSend = [] ∨ f.role = .transmitter ∧ f.toSend.head? = some b) :
    f.readBit (Level.ofBit b) = (f.reading x k b, []) := by
  have hk : k < x.bodyLength + 16 := by
    have := (List.getElem?_eq_some_iff.mp hb).1
    rwa [length_bits] at this
  have he := elem_content hk
  rw [← h.elem] at he
  rw [readBit_of_content h5 he]
  refine congrArg (fun g => (g, [])) ?_
  rcases hsend with ⟨hr, hs⟩ | ⟨hr, hs⟩
  · have htail : f = { f with toSend := f.toSend.tail } := by rw [hs, List.tail_nil, ← hs]
    rw [contentBit_of_receiver hr]
    conv_lhs => rw [htail]
    exact takeBit_having (f := { f with toSend := f.toSend.tail }) hx hb
      (congrArg (fun g : Frame => { g with toSend := f.toSend.tail }) h.content)
  · have hsends : f.sends = Level.ofBit b := by
      rw [sends_of_content h5 he, List.headD_eq_head?_getD, hs]
      rfl
    rw [contentBit_of_sent hr hsends]
    exact takeBit_having (f := { f with toSend := f.toSend.tail }) hx hb
      (congrArg (fun g : Frame => { g with toSend := f.toSend.tail }) h.content)

theorem drive_receiver (hr : f.role = .receiver) : f.drive = .recessive := by
  rw [drive_of_receiver h.running hr, answers_of_passive (.inl h.apart)]

theorem drive_content (hk : k < x.bodyLength + 16) (h5 : f.run ≠ 5) (hr : f.role = .transmitter) {b : Bool}
    (hs : f.toSend.head? = some b) : f.drive = Level.ofBit b := by
  have he := elem_content hk
  rw [← h.elem] at he
  rw [drive_of_transmitter h.running hr, sends_of_content h5 he, List.headD_eq_head?_getD, hs]
  rfl

theorem drive_stuff (h5 : f.run = 5) (hr : f.role = .transmitter) :
    f.drive = opposite f.last := by
  have hdue : f.stuffDue = true := beq_iff_eq.mpr h5
  have he : f.elem = .header ∨ f.elem = .data ∨ f.elem = .check ∨ f.elem = .eod := by
    rw [h.elem]
    unfold RxFrame.elemAt
    grind
  rw [drive_of_transmitter h.running hr]
  rcases he with he | he | he | he <;> simp only [Frame.sends, he, hdue, if_true]

end Frame.Attends

/-! ## Two stations -/

/-- Two stations that have read `k` bits of frame `x`: the first one sends it, and the second one, in that role, has
those bits left to send. What has settled at either, or still waits to, is given. -/
structure Pair.InStep (p : Pair) (x : RxFrame) (k : Nat) (role : Role) (rest : List Bool) (log : List LineEvent) :
    Prop where
  first : p.first.Attends x k
  second : p.second.Attends x k
  run_eq : p.second.run = p.first.run
  last_eq : p.second.last = p.first.last
  sends : p.first.role = .transmitter ∧ p.first.toSend = x.bits.drop k
  hears : p.second.role = role ∧ p.second.toSend = rest
  firstLog : p.firstEvents ++ p.first.settling = []
  secondLog : p.secondEvents ++ p.second.settling = log

theorem log_settled (ev : List LineEvent) (f : Frame) (read : Level) :
    ev ++ f.shown read ++ (f.settled read).settling = ev ++ f.settling := by
  rw [List.append_assoc, shown_settled]

namespace Pair.InStep
variable {p : Pair} {x : RxFrame} {k : Nat} {role : Role} {rest : List Bool} {log : List LineEvent}
  (h : p.InStep x k role rest log)
include h

theorem running : p.first.stopped = false ∧ p.second.stopped = false := ⟨h.first.running, h.second.running⟩

/-- What a transmitter with a stuff bit due sends, the line carries. -/
theorem level_stuff (h5 : p.first.run = 5) : lineLevel p.first.drive p.second.drive = opposite p.first.last := by
  rw [h.first.drive_stuff h5 h.sends.1]
  refine lineLevel_of_recessive ?_
  cases hr : p.second.role with
  | transmitter => exact .inl (by rw [h.second.drive_stuff (h.run_eq.trans h5) hr, h.last_eq])
  | receiver => exact .inr (h.second.drive_receiver hr)

/-- A bit that leads neither station further in the frame. -/
theorem passed {read last : Level} {run : Nat} (hlevel : lineLevel p.first.drive p.second.drive = read)
    (hf : p.first.readBit read = ({ p.first with run := run, last := last }, []))
    (hg : p.second.readBit read = ({ p.second with run := run, last := last }, [])) :
    p.bit.InStep x k role rest log ∧ p.bit.first.run = run := by
  rw [pairBit_of_readBit hlevel h.running hf hg]
  refine ⟨⟨attends_settled (h.first.withRun run last) _, attends_settled (h.second.withRun run last) _, ?_, ?_, ?_, ?_,
    ?_, ?_⟩, settled_run _ _⟩
  · rw [settled_run, settled_run]
  · rw [settled_last, settled_last]
  · rw [settled_role, settled_toSend]
    exact h.sends
  · rw [settled_role, settled_toSend]
    exact h.hears
  · rw [log_settled]
    exact h.firstLog
  · rw [log_settled]
    exact h.secondLog

/-- A stuff bit: sent by every transmitter, read by both. -/
theorem stuff (hk : k < x.bodyLength + 16) (h5 : p.first.run = 5) :
    p.bit.InStep x k role rest log ∧ p.bit.first.run = 1 := by
  have hsecond := h.second.readBit_stuff hk (h.run_eq.trans h5)
  rw [h.last_eq] at hsecond
  exact h.passed (h.level_stuff h5) (h.first.readBit_stuff hk h5) hsecond

/-- A header, data or check bit that no station sends otherwise. -/
theorem content (hx : x.Sendable) {b : Bool} (hb : x.bits[k]? = some b) (h5 : p.first.run ≠ 5)
    (hsend : role = .receiver ∧ rest = [] ∨ role = .transmitter ∧ rest.head? = some b) :
    p.bit.InStep x (k + 1) role rest.tail log ∧ p.bit.first.run ≤ p.first.run + 1 := by
  have hk : k < x.bodyLength + 16 := by
    have := (List.getElem?_eq_some_iff.mp hb).1
    rwa [length_bits] at this
  have h5' : p.second.run ≠ 5 := by rwa [h.run_eq]
  obtain ⟨hr₁, hs₁⟩ := h.sends
  obtain ⟨hr₂, hs₂⟩ := h.hears
  have hhead : p.first.toSend.head? = some b := by rw [hs₁, List.head?_drop, hb]
  have hsend' : p.second.role = .receiver ∧ p.second.toSend = []
      ∨ p.second.role = .transmitter ∧ p.second.toSend.head? = some b := by rwa [hr₂, hs₂]
  have hlevel : lineLevel p.first.drive p.second.drive = Level.ofBit b := by
    rw [h.first.drive_content hk h5 hr₁ hhead]
    refine lineLevel_of_recessive ?_
    rcases hsend' with ⟨hr, -⟩ | ⟨hr, hs⟩
    · exact .inr (h.second.drive_receiver hr)
    · exact .inl (h.second.drive_content hk h5' hr hs)
  rw [pairBit_of_readBit hlevel h.running (h.first.readBit_content hx hb h5 (.inr ⟨hr₁, hhead⟩))
    (h.second.readBit_content hx hb h5' hsend')]
  have hcounted : (p.second.counted (Level.ofBit b)).run = (p.first.counted (Level.ofBit b)).run := by
    simp only [Frame.counted, h.run_eq, h.last_eq]
  refine ⟨⟨attends_settled (h.first.reading b) _, attends_settled (h.second.reading b) _, ?_, ?_, ?_, ?_, ?_, ?_⟩, ?_⟩
  · rw [settled_run, settled_run]
    exact congrArg (x.runAt (k + 1)) hcounted
  · rw [settled_last, settled_last]
    rfl
  · rw [settled_role, settled_toSend]
    exact ⟨hr₁, by rw [← List.tail_drop, ← hs₁]; rfl⟩
  · rw [settled_role, settled_toSend]
    exact ⟨hr₂, by rw [← hs₂]; rfl⟩
  · rw [log_settled]
    exact h.firstLog
  · rw [log_settled]
    exact h.secondLog
  · rw [settled_run]
    exact (runAt_le _ _ _).trans (counted_run_le _ _)

end Pair.InStep

end Sys2Proof.Machine
end

section
/-! SUPPORT. Two stations through the end of a frame, and a frame from its first bit to its last (R11, R12, R21). -/

namespace Sys2Proof.Machine

/-! ## Bit times one after the other -/

theorem run_add (m n : Nat) (p : Pair) : Pair.run (m + n) p = Pair.run n (Pair.run m p) := by
  induction m generalizing p with
  | zero => rw [Nat.zero_add]; rfl
  | succ m ih => rw [Nat.succ_add]; exact ih p.bit

theorem run_succ (n : Nat) (p : Pair) : Pair.run (n + 1) p = (Pair.run n p).bit := run_add n 1 p

namespace Pair.InStep
variable {p : Pair} {x : RxFrame} {k : Nat} {role : Role} {rest : List Bool} {log : List LineEvent}

/-- The stuff bit that may be due is read. -/
theorem ready (h : p.InStep x k role rest log) (hk : k < x.bodyLength + 16) : ∃ n,
    (Pair.run n p).InStep x k role rest log ∧ (Pair.run n p).first.run ≠ 5
      ∧ 4 * n + (Pair.run n p).first.run ≤ p.first.run := by
  by_cases h5 : p.first.run = 5
  · obtain ⟨hstep, hrun⟩ := h.stuff hk h5
    refine ⟨1, hstep, ?_, ?_⟩
    · rw [Pair.run, Pair.run, hrun]
      decide
    · rw [Pair.run, Pair.run, hrun, h5]
  · exact ⟨0, h, h5, Nat.le_of_eq (Nat.zero_add _)⟩

/-- The next bits of the frame, which no station sends otherwise; five bit times for four of them at most (R3). -/
theorem run_content (h : p.InStep x k role rest log) (hx : x.Sendable) {j : Nat} (hj : k + j ≤ x.bodyLength + 16)
    (hsend : role = .receiver ∧ rest = []
      ∨ role = .transmitter ∧ ∀ i, i < j → rest[i]? = x.bits[k + i]?) : ∃ n,
    (Pair.run n p).InStep x (k + j) role (rest.drop j) log
      ∧ 4 * n + (Pair.run n p).first.run ≤ 5 * j + p.first.run := by
  induction j with
  | zero => exact ⟨0, h, Nat.le_refl _⟩
  | succ j ih =>
    obtain ⟨n, hn, hnrun⟩ := ih (by omega) (hsend.imp_right fun ⟨hr, hs⟩ => ⟨hr, fun i hi => hs i (by omega)⟩)
    obtain ⟨m, hm, h5, hmrun⟩ := hn.ready (by omega)
    obtain ⟨b, hb⟩ : ∃ b, x.bits[k + j]? = some b :=
      ⟨_, List.getElem?_eq_getElem (by rw [length_bits]; omega)⟩
    have hnext : role = .receiver ∧ rest.drop j = []
        ∨ role = .transmitter ∧ (rest.drop j).head? = some b := by
      refine hsend.imp (fun ⟨hr, hs⟩ => ⟨hr, by rw [hs, List.drop_nil]⟩) fun ⟨hr, hs⟩ => ⟨hr, ?_⟩
      rw [List.head?_drop, hs j (Nat.lt_succ_self j), hb]
    obtain ⟨hstep, hrun⟩ := hm.content hx hb h5 hnext
    refine ⟨n + m + 1, ?_, ?_⟩
    · rw [run_succ, run_add, ← List.tail_drop]
      exact hstep
    · rw [run_succ, run_add]
      omega

end Pair.InStep

/-! ## Bits at a station whose codes have settled -/

/-- A station that takes part, and at which no code waits. -/
def Frame.Clean (f : Frame) : Prop := f.stopped = false ∧ f.txCode = none ∧ f.rxCode = none

theorem settling_of_clean {f : Frame} (h : f.Clean) : f.settling = [] := by
  obtain ⟨-, ht, hr⟩ := h
  simp only [Frame.settling, ht, hr, List.append_nil]

theorem bit_of_clean {f g : Frame} {read : Level} {ev : List LineEvent} (hf : f.Clean) (hg : g.Clean)
    (h : f.readBit read = (g, ev)) : f.bit read = (g, ev) := by
  have hcodes : { g with txCode := none, rxCode := none } = g := by
    obtain ⟨-, ht, hr⟩ := hg
    rw [← ht, ← hr]
  cases read with
  | dominant => rw [bit_of_dominant hf.1, h]
  | recessive => rw [bit_of_recessive hf.1, h, hcodes, settling_of_clean hg, List.nil_append]

theorem pairBit_of_clean {p : Pair} {f g : Frame} {read : Level} {ev ev' : List LineEvent}
    (hl : lineLevel p.first.drive p.second.drive = read) (hp : p.first.Clean ∧ p.second.Clean)
    (hf : f.Clean) (hg : g.Clean) (h : p.first.readBit read = (f, ev)) (h' : p.second.readBit read = (g, ev')) :
    p.bit = { first := f, second := g, firstEvents := p.firstEvents ++ ev, secondEvents := p.secondEvents ++ ev' } := by
  simp only [Pair.bit, hl, bit_of_clean hp.1 hf h, bit_of_clean hp.2 hg h']

/-! ## EOF (R11) -/

/-- A transmitter, or a receiver that has no response to send. -/
def Frame.Resting (f : Frame) : Prop :=
  f.role = .transmitter ∨ f.responder = .absent ∨ f.responder = .beaten ∨ f.responder = .placed

theorem drive_of_resting {f : Frame} (hs : f.stopped = false) (h5 : f.run ≠ 5)
    (he : f.elem = .eod ∨ f.elem = .start ∨ f.elem = .eof) (h : f.Resting) : f.drive = .recessive := by
  have hdue : f.stuffDue = false := Bool.eq_false_iff.mpr fun hx => h5 (beq_iff_eq.mp hx)
  cases hr : f.role with
  | transmitter =>
    rw [drive_of_transmitter hs hr]
    rcases he with he | he | he <;> simp [Frame.sends, he, hdue]
  | receiver => rw [drive_of_receiver hs hr, answers_of_passive (h.resolve_left (by simp [hr]))]

/-- A station that has read `n` bits of the EOF. -/
structure Frame.Ends (f : Frame) (n : Nat) : Prop where
  clean : f.Clean
  place : f.elem = .eof ∧ f.count = n
  unstuffed : f.run ≠ 5
  resting : f.Resting

/-- What a station comes to at the end of a frame. -/
def Frame.endEvent (f : Frame) : LineEvent :=
  match f.role with
  | .transmitter => .attemptSettled .ok
  | .receiver => .frameEnd

theorem endEvent_of_transmitter {f : Frame} (h : f.role = .transmitter) : f.endEvent = .attemptSettled .ok := by
  simp only [Frame.endEvent, h]

theorem endEvent_of_receiver {f : Frame} (h : f.role = .receiver) : f.endEvent = .frameEnd := by
  simp only [Frame.endEvent, h]

namespace Frame.Ends
variable {f : Frame} {n : Nat} (h : f.Ends n)
include h

theorem drive : f.drive = .recessive := drive_of_resting h.clean.1 h.unstuffed (.inr (.inr h.place.1)) h.resting

theorem readBit (hn : n < 7) : f.readBit .recessive = ({ f with count := n + 1 }, []) := by
  obtain ⟨he, hc⟩ := h.place
  rw [readBit_of_plain h.unstuffed]
  simp only [Frame.plainBit, he, hc]
  rw [if_neg (by decide), if_pos hn]

theorem readBit_last (hn : n = 7) : f.readBit .recessive = ({ f with count := 8 }, [f.endEvent]) := by
  obtain ⟨he, hc⟩ := h.place
  rw [readBit_of_plain h.unstuffed]
  simp only [Frame.plainBit, he, hc, hn]
  rw [if_neg (by decide), if_neg (by decide)]
  cases hr : f.role <;> simp only [Frame.endEvent, hr]

theorem next : Frame.Ends { f with count := n + 1 } (n + 1) := ⟨h.clean, ⟨h.place.1, rfl⟩, h.unstuffed, h.resting⟩

end Frame.Ends

/-- Two stations come to the end of a frame. -/
theorem run_ends {n m : Nat} (hn : n + m = 7) {p : Pair} (hf : p.first.Ends n) (hg : p.second.Ends n) :
    Pair.run (m + 1) p = {
      first := { p.first with count := 8 }
      second := { p.second with count := 8 }
      firstEvents := p.firstEvents ++ [p.first.endEvent]
      secondEvents := p.secondEvents ++ [p.second.endEvent] } := by
  have hlevel : lineLevel p.first.drive p.second.drive = .recessive := by rw [hf.drive, hg.drive]; rfl
  induction m generalizing n p with
  | zero =>
    exact pairBit_of_clean hlevel ⟨hf.clean, hg.clean⟩ hf.clean hg.clean (hf.readBit_last hn) (hg.readBit_last hn)
  | succ m ih =>
    have hbit := pairBit_of_clean hlevel ⟨hf.clean, hg.clean⟩ hf.next.clean hg.next.clean (hf.readBit (by omega))
      (hg.readBit (by omega))
    rw [Pair.run, hbit, ih (n := n + 1) (by omega) hf.next hg.next (by rw [hf.next.drive, hg.next.drive]; rfl)]
    simp only [List.append_nil]
    rfl

/-! ## EOD and the window of two stations that answer nothing (R11, R17) -/

theorem elem_eod (x : RxFrame) : x.elemAt (x.bodyLength + 16) = .eod := by
  unfold RxFrame.elemAt RxFrame.bodyLength
  grind

theorem count_eod (x : RxFrame) : x.countAt (x.bodyLength + 16) = 0 := by
  unfold RxFrame.countAt RxFrame.bodyLength
  grind

/-- A frame with its codes settled and that much of its EOD read. -/
def Frame.inEod (f : Frame) (n : Nat) : Frame := { f with count := n, txCode := none, rxCode := none }

/-- A frame with its EOD read whole. -/
def Frame.pastEod (f : Frame) (e : Elem) : Frame := { f.inEod 0 with elem := e }

namespace Frame.Attends
variable {f : Frame} {x : RxFrame} (h : f.Attends x (x.bodyLength + 16))
include h

theorem readBit_eodStuff (h5 : f.run = 5) :
    f.readBit (opposite f.last) = ({ f with run := 0, last := f.last }, []) := by
  have he : f.elem = .eod := h.elem.trans (elem_eod x)
  rw [readBit_of_stuff h5 (opposite_ne _)]
  simp only [Frame.stuffed, he]

theorem readBit_eod (h5 : f.run ≠ 5) : f.readBit .recessive = ({ f with count := 1 }, []) := by
  have he : f.elem = .eod := h.elem.trans (elem_eod x)
  have hc : f.count = 0 := (count_of_having h.content).trans (count_eod x)
  rw [readBit_of_plain h5]
  simp only [Frame.plainBit, he, hc]
  rfl

theorem drive_eod (h5 : f.run ≠ 5) : f.drive = .recessive :=
  drive_of_resting h.running h5 (.inl (h.elem.trans (elem_eod x))) (.inr (.inl h.apart))

theorem clean_inEod (n : Nat) : (f.inEod n).Clean := ⟨h.running, rfl, rfl⟩

theorem clean_pastEod (e : Elem) : (f.pastEod e).Clean := ⟨h.running, rfl, rfl⟩

theorem bits_whole : f.bits = x.body := by
  rw [bits_of_having h.content, List.take_of_length_le (by rw [length_body]; omega)]

theorem readBit_eodEnd (h5 : f.run ≠ 5) : (f.inEod 1).readBit .recessive
    = (f.pastEod (if x.kind = .call then .start else .eof),
      if x.kind = .call ∧ f.role = .receiver then [.eodPoint] else []) := by
  have he : (f.inEod 1).elem = .eod := h.elem.trans (elem_eod x)
  have hkind : kindOf (f.inEod 1).bits = some x.kind := (congrArg kindOf h.bits_whole).trans (kindOf_body x)
  rw [readBit_of_plain (f := f.inEod 1) h5]
  simp only [Frame.plainBit, he, hkind, Option.some.injEq]
  rw [if_neg (by decide), if_neg (by exact Nat.one_ne_zero)]
  by_cases hc : x.kind = .call
  · simp only [hc, if_true, true_and]
    rfl
  · simp only [hc, if_false, false_and]
    rfl

/-- The first position of a window in which nobody answers. -/
theorem readBit_unanswered (h5 : f.run ≠ 5) : (f.pastEod .start).readBit .recessive
    = ({ f.pastEod .eof with count := 1, run := 0 }, []) := by
  rw [readBit_at_start_recessive (f := f.pastEod .start) h5 rfl]
  refine if_neg fun hr : f.responder = .competing => ?_
  rw [h.apart] at hr
  cases hr

theorem drive_inEod (h5 : f.run ≠ 5) (n : Nat) : (f.inEod n).drive = .recessive :=
  drive_of_resting (f := f.inEod n) h.running h5 (.inl (h.elem.trans (elem_eod x))) (.inr (.inl h.apart))

theorem drive_pastEod (h5 : f.run ≠ 5) : (f.pastEod .start).drive = .recessive :=
  drive_of_resting (f := f.pastEod .start) h.running h5 (.inr (.inl rfl)) (.inr (.inl h.apart))

theorem ends_pastEod (h5 : f.run ≠ 5) : (f.pastEod .eof).Ends 0 :=
  ⟨⟨h.running, rfl, rfl⟩, ⟨rfl, rfl⟩, h5, .inr (.inl h.apart)⟩

theorem ends_unanswered : Frame.Ends { f.pastEod .eof with count := 1, run := 0 } 1 :=
  ⟨⟨h.running, rfl, rfl⟩, ⟨rfl, rfl⟩, (Nat.succ_ne_zero 4).symm, .inr (.inl h.apart)⟩

end Frame.Attends

/-- The frame as a receiver hands it on. -/
theorem received_of_whole {f : Frame} {x : RxFrame} (hx : x.Sendable) (hb : f.bits = x.body) (hr : f.responses = []) :
    f.received = x := by
  simp only [Frame.received, hb, hr, hx.lengthOf_body, kindOf_body, dataOf_body, priorityOf, topicOf, sourceOf,
    field_priority, field_topic, field_source, BitVec.ofNat_toNat, BitVec.setWidth_eq, Option.getD_some]
  rw [← hx.responses]

namespace Pair.InStep
variable {p : Pair} {x : RxFrame} {log : List LineEvent}
  (h : p.InStep x (x.bodyLength + 16) .receiver [] log)
include h

/-- A stuff bit after the last bit of the check. -/
theorem eodStuff (h5 : p.first.run = 5) :
    p.bit.InStep x (x.bodyLength + 16) .receiver [] log ∧ p.bit.first.run = 0 := by
  have hsecond := h.second.readBit_eodStuff (h.run_eq.trans h5)
  rw [h.last_eq] at hsecond
  exact h.passed (h.level_stuff h5) (h.first.readBit_eodStuff h5) hsecond

variable (h5 : p.first.run ≠ 5)
include h5

/-- The two bits of the EOD. -/
theorem eod : p.bit.bit = {
    first := p.first.pastEod (if x.kind = .call then .start else .eof)
    second := p.second.pastEod (if x.kind = .call then .start else .eof)
    firstEvents := []
    secondEvents := log ++ if x.kind = .call then [.eodPoint] else [] } := by
  have hf := h.first
  have hg := h.second
  have h5' : p.second.run ≠ 5 := by rwa [h.run_eq]
  have hbit : p.bit = {
      first := p.first.inEod 1, second := p.second.inEod 1, firstEvents := [], secondEvents := log } := by
    rw [pairBit_of_readBit (by rw [hf.drive_eod h5, hg.drive_eod h5']; rfl) h.running (hf.readBit_eod h5)
      (hg.readBit_eod h5'), ← h.firstLog, ← h.secondLog]
    rfl
  rw [hbit, pairBit_of_clean (read := .recessive) (by rw [hf.drive_inEod h5, hg.drive_inEod h5']; rfl)
    ⟨hf.clean_inEod 1, hg.clean_inEod 1⟩ (hf.clean_pastEod _) (hg.clean_pastEod _) (hf.readBit_eodEnd h5)
    (hg.readBit_eodEnd h5')]
  simp [h.sends.1, h.hears.1]

theorem finish_call (hc : x.kind = .call) : Pair.run 10 p = {
    first := { p.first.pastEod .eof with count := 8, run := 0 }
    second := { p.second.pastEod .eof with count := 8, run := 0 }
    firstEvents := [.attemptSettled .ok]
    secondEvents := log ++ [.eodPoint, .frameEnd] } := by
  have hf := h.first
  have hg := h.second
  have h5' : p.second.run ≠ 5 := by rwa [h.run_eq]
  have hrun : Pair.run 10 p = Pair.run 7 p.bit.bit.bit := rfl
  rw [hrun, h.eod h5, if_pos hc, if_pos hc,
    pairBit_of_clean (read := .recessive) (by rw [hf.drive_pastEod h5, hg.drive_pastEod h5']; rfl)
      ⟨hf.clean_pastEod _, hg.clean_pastEod _⟩ hf.ends_unanswered.clean hg.ends_unanswered.clean
      (hf.readBit_unanswered h5) (hg.readBit_unanswered h5'),
    run_ends (m := 6) rfl hf.ends_unanswered hg.ends_unanswered]
  rw [endEvent_of_transmitter (f := { p.first.pastEod .eof with count := 1, run := 0 }) h.sends.1,
    endEvent_of_receiver (f := { p.second.pastEod .eof with count := 1, run := 0 }) h.hears.1]
  simp

theorem finish_other (hc : x.kind ≠ .call) : Pair.run 10 p = {
    first := { p.first.pastEod .eof with count := 8 }
    second := { p.second.pastEod .eof with count := 8 }
    firstEvents := [.attemptSettled .ok]
    secondEvents := log ++ [.frameEnd] } := by
  have hf := h.first
  have hg := h.second
  have h5' : p.second.run ≠ 5 := by rwa [h.run_eq]
  have hrun : Pair.run 10 p = Pair.run 8 p.bit.bit := rfl
  rw [hrun, h.eod h5, if_neg hc, if_neg hc, run_ends (m := 7) rfl (hf.ends_pastEod h5) (hg.ends_pastEod h5'),
    endEvent_of_transmitter (f := p.first.pastEod .eof) h.sends.1,
    endEvent_of_receiver (f := p.second.pastEod .eof) h.hears.1, List.append_nil, List.nil_append]

omit h5 in
/-- A stuff bit that the end of the check may call for. -/
theorem eodReady : ∃ n, (Pair.run n p).InStep x (x.bodyLength + 16) .receiver [] log
    ∧ (Pair.run n p).first.run ≠ 5 ∧ 4 * n ≤ p.first.run := by
  by_cases h5 : p.first.run = 5
  · obtain ⟨hstep, hrun⟩ := h.eodStuff h5
    refine ⟨1, hstep, fun hn => ?_, by omega⟩
    exact absurd (hrun.symm.trans hn) (by decide)
  · exact ⟨0, h, h5, Nat.zero_le _⟩

/-- Two stations from the end of the check to the end of the frame. -/
theorem finish (hx : x.Sendable) : (Pair.run 10 p).firstEvents = [.attemptSettled .ok]
    ∧ (Pair.run 10 p).secondEvents = log ++ (if x.kind = .call then [.eodPoint, .frameEnd] else [.frameEnd])
    ∧ (Pair.run 10 p).second.received = x := by
  by_cases hc : x.kind = .call
  · rw [h.finish_call h5 hc, if_pos hc]
    exact ⟨rfl, rfl, received_of_whole hx h.second.bits_whole h.second.unanswered⟩
  · rw [h.finish_other h5 hc, if_neg hc]
    exact ⟨rfl, rfl, received_of_whole hx h.second.bits_whole h.second.unanswered⟩

end Pair.InStep

/-- Two stations in step come to the end of the frame, in the time that the stuff bits leave (R3). -/
theorem Pair.InStep.arrives {p : Pair} {x : RxFrame} {k : Nat} {log : List LineEvent} (h : p.InStep x k .receiver [] log)
    (hx : x.Sendable) (hk : k ≤ x.bodyLength + 16) : ∃ n, 4 * n ≤ 5 * (x.bodyLength + 16 - k) + p.first.run + 40
      ∧ (Pair.run n p).firstEvents = [.attemptSettled .ok]
      ∧ (Pair.run n p).secondEvents = log ++ (if x.kind = .call then [.eodPoint, .frameEnd] else [.frameEnd])
      ∧ (Pair.run n p).second.received = x := by
  obtain ⟨n, hn, hnrun⟩ := h.run_content hx (j := x.bodyLength + 16 - k) (by omega) (.inl ⟨rfl, rfl⟩)
  rw [Nat.add_sub_cancel' hk, List.drop_nil] at hn
  obtain ⟨m, hm, h5, hmrun⟩ := hn.eodReady
  refine ⟨n + m + 10, by omega, ?_⟩
  rw [run_add, run_add]
  exact hm.finish h5 hx

theorem having_start (f : Frame) (x : RxFrame) (he : f.elem = .header) (hc : f.count = 0) (hb : f.bits = [])
    (hk : f.check = []) (hr : f.crc = crcPreset) : f.having x 0 = f :=
  having_self (by rw [he, elemAt_header (by decide)]) (by rw [hc, countAt_header (by decide)])
    (by rw [hb, List.take_zero]) (by rw [hk, Nat.zero_sub, List.take_zero]) (by rw [hr]; rfl)

theorem sending_eq (x : RxFrame) : x.sending = Frame.start .transmitter .header x.bits := rfl

theorem attends_start (x : RxFrame) (role : Role) (toSend : List Bool) :
    (Frame.start role .header toSend).Attends x 0 :=
  ⟨having_start _ _ rfl rfl rfl rfl rfl, rfl, rfl, rfl, rfl⟩

/-- Settles O48: the two stations keep in step through header, data and check, and then come through the EOD and
the EOF together. -/
theorem everyFrameSentArrivesWhole : Obligations.EveryFrameSentArrivesWhole := by
  intro x hx
  have start : Pair.InStep { first := x.sending, second := Frame.hearing, firstEvents := [], secondEvents := [] } x 0
      .receiver [] [] :=
    ⟨attends_start x .transmitter x.bits, attends_start x .receiver [], rfl, rfl, ⟨rfl, rfl⟩, ⟨rfl, rfl⟩, rfl, rfl⟩
  obtain ⟨n, hn, hend⟩ := start.arrives hx (Nat.zero_le _)
  have hlen : x.bodyLength = 28 + 8 * x.data.length := rfl
  have hdata := hx.length_le
  have hrun : x.sending.run = 0 := rfl
  refine ⟨n, by dsimp only at hn; omega, hend⟩

end Sys2Proof.Machine
end

section
/-! SUPPORT. Arbitration: two stations that send together, and the one with the lower field (R5, R13). -/

namespace Sys2Proof.Machine

/-! ## The arbitration field -/

theorem arbitrationField_lt (x : RxFrame) : x.arbitrationField < 2 ^ 24 := by
  have hp := x.priority.isLt
  have ht := x.topic.isLt
  have hs := x.source.isLt
  have hk : x.kind.code ≤ 3 := by cases x.kind <;> decide
  unfold RxFrame.arbitrationField
  omega

/-- The first 24 bits of a frame are those of its arbitration field. -/
theorem take_body_eq (x : RxFrame) : x.body.take 24 = bitsOf 24 x.arbitrationField := by
  have hk : x.kind.code < 2 ^ 3 := by cases x.kind <;> decide
  have hfield : bitsOf 24 x.arbitrationField = bitsOf 3 x.priority.toNat ++ bitsOf 3 x.kind.code
      ++ bitsOf 12 x.topic.toNat ++ bitsOf 6 x.source.toNat := by
    rw [← bitsOf_mul_add 3 3 _ hk, ← bitsOf_mul_add (3 + 3) 12 _ x.topic.isLt,
      ← bitsOf_mul_add (3 + 3 + 12) 6 _ x.source.isLt]
    rfl
  rw [hfield, RxFrame.body, headerBits, List.append_assoc, List.take_left' (by simp)]

theorem natOf_take_body (x : RxFrame) : natOf (x.body.take 24) = x.arbitrationField := by
  rw [take_body_eq, natOf_bitsOf, Nat.mod_eq_of_lt (arbitrationField_lt x)]

theorem getElem?_bits {x : RxFrame} {i : Nat} (hi : i < 24) : x.bits[i]? = (x.body.take 24)[i]? := by
  rw [List.getElem?_take_of_lt hi, bits_eq, List.getElem?_append_left]
  rw [length_body, RxFrame.bodyLength]
  omega

/-- Of two frames, the one with the lower field has the first dominant bit at which they differ. -/
theorem exists_arbitration {x y : RxFrame} (h : x.arbitrationField < y.arbitrationField) : ∃ j, j < 24
    ∧ (∀ i, i < j → y.bits[i]? = x.bits[i]?) ∧ x.bits[j]? = some false ∧ y.bits[j]? = some true := by
  have hlen (z : RxFrame) : (z.body.take 24).length = 24 := by rw [take_body_eq, length_bitsOf]
  obtain ⟨j, htake, hx, hy⟩ := exists_first_difference (a := x.body.take 24) (b := y.body.take 24)
    ((hlen x).trans (hlen y).symm) (by rwa [natOf_take_body, natOf_take_body])
  have hj : j < 24 := by
    have := (List.getElem?_eq_some_iff.mp hx).1
    rwa [hlen] at this
  refine ⟨j, hj, fun i hi => ?_, (getElem?_bits hj).trans hx, (getElem?_bits hj).trans hy⟩
  rw [getElem?_bits (by omega), getElem?_bits (by omega), ← List.getElem?_take_of_lt hi, ← htake,
    List.getElem?_take_of_lt hi]

/-! ## The bit on which one station loses (R13, R21) -/

/-- A transmitter that reads its recessive bit dominant in the first 24 bits of the header. -/
theorem Frame.Attends.readBit_lost {f : Frame} {x : RxFrame} {k : Nat} (h : f.Attends x k) (hx : x.Sendable)
    (hk : k < 24) (hb : x.bits[k]? = some false) (h5 : f.run ≠ 5) (hr : f.role = .transmitter)
    (hs : f.toSend.head? = some true) : f.readBit .dominant = (f.lose.reading x k false, []) := by
  have he : f.elem = .header := h.elem.trans (elemAt_header (by omega))
  have hc : f.count < 24 := by rwa [count_of_having h.content, countAt_header (by omega)]
  have hsends : f.sends = .recessive := by
    rw [sends_of_content h5 (.inl he), List.headD_eq_head?_getD, hs]
    rfl
  have hlose : f.contentBit .dominant = f.lose.takeBit .dominant := by
    simp only [Frame.contentBit, hr]
    rw [if_neg (by rw [hsends]; decide), if_pos ⟨he, hc, trivial⟩]
  rw [readBit_of_content h5 (.inl he), hlose]
  exact congrArg (fun g => (g, [])) (takeBit_having (f := f.lose) hx hb (congrArg Frame.lose h.content))

theorem Pair.InStep.lose {p : Pair} {x : RxFrame} {k : Nat} {rest : List Bool}
    (h : p.InStep x k .transmitter rest []) (hx : x.Sendable) (hk : k < 24) (hb : x.bits[k]? = some false)
    (hs : rest.head? = some true) (h5 : p.first.run ≠ 5) :
    p.bit.InStep x (k + 1) .receiver [] [.attemptSettled .lost] ∧ p.bit.first.run ≤ p.first.run + 1 := by
  have hk' : k < x.bodyLength + 16 := by unfold RxFrame.bodyLength; omega
  have h5' : p.second.run ≠ 5 := by rwa [h.run_eq]
  obtain ⟨hr₁, hs₁⟩ := h.sends
  obtain ⟨hr₂, hs₂⟩ := h.hears
  have hhead : p.first.toSend.head? = some false := by rw [hs₁, List.head?_drop, hb]
  have hhead' : p.second.toSend.head? = some true := by rw [hs₂, hs]
  have hlevel : lineLevel p.first.drive p.second.drive = .dominant := by
    rw [h.first.drive_content hk' h5 hr₁ hhead]
    exact lineLevel_of_recessive (.inr (h.second.drive_content hk' h5' hr₂ hhead'))
  have hlost : p.second.lose.Attends x k :=
    ⟨congrArg Frame.lose h.second.content, h.second.running, h.second.whole, h.second.apart, h.second.unanswered⟩
  have hcounted : (p.second.lose.counted .dominant).run = (p.first.counted .dominant).run := by
    simp only [Frame.counted, Frame.lose, h.run_eq, h.last_eq]
  have hevents : p.secondEvents = [] := (List.append_eq_nil_iff.mp h.secondLog).1
  rw [pairBit_of_readBit hlevel h.running (h.first.readBit_content hx hb h5 (.inr ⟨hr₁, hhead⟩))
    (h.second.readBit_lost hx hk hb h5' hr₂ hhead')]
  refine ⟨⟨h.first.reading false, hlost.reading false, congrArg (x.runAt (k + 1)) hcounted, rfl,
    ⟨hr₁, by rw [← List.tail_drop, ← hs₁]; rfl⟩, ⟨rfl, rfl⟩, ?_, ?_⟩, ?_⟩
  · rw [log_settled]
    exact h.firstLog
  · rw [log_settled, hevents]
    have hcode : (p.second.lose.reading x k false).rxCode = none := h.second.whole
    simp only [Frame.settling, hcode]
    rfl
  · exact (runAt_le _ _ _).trans (counted_run_le _ _)

/-- Settles O49: the two stations send the same bits up to the first that differs, where the higher field loses, and
from there one sends and the other hears. -/
theorem lowerArbitrationFieldWins : Obligations.LowerArbitrationFieldWins := by
  intro x y hx hy hlt
  obtain ⟨j, hj, hsame, hxj, hyj⟩ := exists_arbitration hlt
  have start : Pair.InStep { first := x.sending, second := y.sending, firstEvents := [], secondEvents := [] } x 0
      .transmitter y.bits [] :=
    ⟨attends_start x .transmitter x.bits, attends_start x .transmitter y.bits, rfl, rfl, ⟨rfl, rfl⟩, ⟨rfl, rfl⟩, rfl,
      rfl⟩
  have hlen : x.bodyLength = 28 + 8 * x.data.length := rfl
  have hdata := hx.length_le
  have hrun : x.sending.run = 0 := rfl
  obtain ⟨n, hn, hnrun⟩ := start.run_content hx (j := j) (by omega)
    (.inr ⟨rfl, fun i hi => by rw [Nat.zero_add]; exact hsame i hi⟩)
  rw [Nat.zero_add] at hn
  obtain ⟨m, hm, h5, hmrun⟩ := hn.ready (by omega)
  obtain ⟨hlost, hlrun⟩ := hm.lose hx hj hxj (by rw [List.head?_drop, hyj]) h5
  obtain ⟨l, hl, hend⟩ := hlost.arrives hx (by omega)
  refine ⟨n + m + 1 + l, ?_, ?_⟩
  · dsimp only at hnrun
    omega
  · rw [run_add, run_succ, run_add]
    exact hend

end Sys2Proof.Machine
end

section
/-! SUPPORT. A response byte at the stations of a window: the one that sends it, and one that gives way (R15, R18,
R19). -/

namespace Sys2Proof.Machine

theorem getElem?_bitsOf {n i : Nat} (x : Nat) (h : i < n) : (bitsOf n x)[i]? = some (x.testBit (n - 1 - i)) := by
  induction n generalizing i with
  | zero => exact absurd h (Nat.not_lt_zero i)
  | succ n ih =>
    cases i with
    | zero => rfl
    | succ i =>
      rw [bitsOf, List.getElem?_cons_succ, ih (Nat.lt_of_succ_lt_succ h)]
      congr 2
      omega

/-- Of two lists that agree so far, the lower one goes on as the other does, or goes below it. -/
theorem next_of_lower {a b : List Bool} (hl : a.length = b.length) (h : natOf a < natOf b) {c : Nat}
    (ht : a.take c = b.take c) {u v : Bool} (hu : a[c]? = some u) (hv : b[c]? = some v) :
    (u = v ∧ a.take (c + 1) = b.take (c + 1)) ∨ (u = false ∧ v = true) := by
  obtain ⟨j, hj, hx, hy⟩ := exists_first_difference hl h
  rcases Nat.lt_trichotomy c j with hcj | rfl | hcj
  · have huv : some u = some v := by
      rw [← hu, ← hv, ← List.getElem?_take_of_lt hcj, hj, List.getElem?_take_of_lt hcj]
    refine .inl ⟨Option.some.inj huv, ?_⟩
    rw [List.take_add_one, List.take_add_one, ht, hu, hv, huv]
  · exact .inr ⟨Option.some.inj (hu.symm.trans hx), Option.some.inj (hv.symm.trans hy)⟩
  · have hxy : a[j]? = b[j]? := by
      rw [← List.getElem?_take_of_lt hcj, ht, List.getElem?_take_of_lt hcj]
    rw [hx, hy] at hxy
    cases hxy

/-! ## The bits of a byte -/

/-- The bits of a response byte, in the order in which they are sent (R208). -/
def byteBits (b : Byte) : List Bool := bitsOf 8 b.toNat

theorem natOf_byteBits (b : Byte) : natOf (byteBits b) = b.toNat :=
  (natOf_bitsOf 8 b.toNat).trans (Nat.mod_eq_of_lt b.isLt)

theorem length_byteBits (b : Byte) : (byteBits b).length = 8 := length_bitsOf 8 _

theorem getElem?_byteBits (b : Byte) {c : Nat} (hc : c < 8) : (byteBits b)[c]? = some (b.getLsbD (7 - c)) :=
  getElem?_bitsOf b.toNat hc

/-- A station that has read `c` bits of response byte `b`, the bytes of the earlier positions in its list. -/
structure Frame.Spelling (f : Frame) (done : List Byte) (b : Byte) (c : Nat) : Prop where
  clean : f.Clean
  place : f.elem = .response ∧ f.count = c
  part : f.partialByte = (byteBits b).take c
  listed : f.responses = done

namespace Frame.Spelling
variable {f : Frame} {done : List Byte} {b : Byte} {c : Nat} (h : f.Spelling done b c)
include h

theorem responseBit_eq (hc : c < 8) {v : Bool} (hv : (byteBits f.ownByte)[c]? = some v) :
    f.responseBit = Level.ofBit v := by
  rw [getElem?_byteBits _ hc] at hv
  rw [Frame.responseBit, h.place.2, Option.some.inj hv]

variable {v : Bool} (hv : (byteBits b)[c]? = some v)
include hv

theorem part_next : f.partialByte ++ [(Level.ofBit v).bit] = (byteBits b).take (c + 1) := by
  rw [h.part, bit_ofBit, List.take_add_one, hv]
  rfl

theorem next : (f.withResponseBit (Level.ofBit v)).Spelling done b (c + 1) :=
  ⟨h.clean, ⟨h.place.1, congrArg (· + 1) h.place.2⟩, h.part_next hv, h.listed⟩

variable (h5 : f.run ≠ 5)
  (hfit : ¬ (f.responder = .competing ∧ f.responseBit = .dominant ∧ Level.ofBit v = .recessive))
include h5 hfit

theorem readBit_early (hc : c < 7) (hb : b.getLsbD 7 = false) :
    f.readBit (Level.ofBit v) = (f.withResponseBit (Level.ofBit v), []) := by
  have hcount := h.place.2
  rw [readBit_at_response h5 h.place.1]
  refine windowBit_of_early hfit (by omega) (.inr ?_)
  have hhead : (byteBits b).head? = some false := by
    rw [List.head?_eq_getElem?, getElem?_byteBits b (by decide), hb]
  rw [h.part_next hv, List.head?_take, if_neg (Nat.succ_ne_zero c), hhead]
  decide

theorem readBit_last (hc : c = 7) :
    f.readBit (Level.ofBit v) = (f.withResponseBit (Level.ofBit v)).byteRead b := by
  have hcount := h.place.2
  have hbyte : BitVec.ofNat 8 (natOf (f.partialByte ++ [(Level.ofBit v).bit])) = b := by
    rw [h.part_next hv, List.take_of_length_le (by rw [length_byteBits]; omega), natOf_byteBits, BitVec.ofNat_toNat,
      BitVec.setWidth_eq]
  rw [readBit_at_response h5 h.place.1, windowBit_of_last hfit (by omega), hbyte]

omit hv h5 hfit in
theorem readBit_stuff (hx : f.run = 5) :
    f.readBit (opposite f.last) = (f.withStuffBit (opposite f.last), []) := by
  rw [readBit_of_stuff hx (opposite_ne _), stuffed_at_response h.place.1]

end Frame.Spelling

/-! ## The sender of the byte -/

/-- A responder that competes with that byte. -/
def Frame.Speaks (f : Frame) (b : Byte) : Prop := f.role = .receiver ∧ f.responder = .competing ∧ f.ownByte = b

namespace Frame.Speaks
variable {f : Frame} {done : List Byte} {b : Byte} {c : Nat} (hs : f.Speaks b) (h : f.Spelling done b c)
include hs h

theorem responseBit (hc : c < 8) {v : Bool} (hv : (byteBits b)[c]? = some v) : f.responseBit = Level.ofBit v :=
  h.responseBit_eq hc (by rwa [hs.2.2])

theorem fits (hc : c < 8) {v : Bool} (hv : (byteBits b)[c]? = some v) :
    ¬ (f.responder = .competing ∧ f.responseBit = .dominant ∧ Level.ofBit v = .recessive) := by
  rintro ⟨-, hd, hr⟩
  rw [hs.responseBit h hc hv, hr] at hd
  cases hd

theorem drive (hc : c < 8) {v : Bool} (hv : (byteBits b)[c]? = some v) (h5 : f.run ≠ 5) :
    f.drive = Level.ofBit v := by
  rw [drive_of_receiver h.clean.1 hs.1, answers_at_response hs.2.1 h.place.1, if_neg h5, hs.responseBit h hc hv]

theorem drive_stuff (h5 : f.run = 5) : f.drive = opposite f.last := by
  rw [drive_of_receiver h.clean.1 hs.1, answers_at_response hs.2.1 h.place.1, if_pos h5]

theorem next (hc : c < 8) {v : Bool} (hv : (byteBits b)[c]? = some v) :
    (f.withResponseBit (Level.ofBit v)).Speaks b := by
  refine ⟨hs.1, ?_, hs.2.2⟩
  have hbit := hs.responseBit h hc hv
  exact (if_neg fun hx => hx.2 hbit).trans hs.2.1

end Frame.Speaks

/-! ## A station that gives way -/

/-- A station that sends nothing of its own in the position, or a responder with a higher byte that has lost it or
has sent the same bits so far; `r` is its part when the position began. -/
def Frame.Yields (f : Frame) (r : Responder) (b : Byte) (c : Nat) : Prop :=
  f.responder = r ∧ (r = .absent ∨ r = .placed)
    ∨ r = .competing ∧ (f.responder = .beaten ∨ f.role = .receiver ∧ f.responder = .competing
      ∧ (byteBits b).take c = (byteBits f.ownByte).take c ∧ b.toNat < f.ownByte.toNat)

namespace Frame.Yields
variable {f : Frame} {r : Responder} {done : List Byte} {b : Byte} {c : Nat} (hy : f.Yields r b c)
  (h : f.Spelling done b c)
include hy h

/-- It sends nothing, or it sends as the byte goes, or recessive where the byte goes dominant. -/
theorem cases_bit (hc : c < 8) {v : Bool} (hv : (byteBits b)[c]? = some v) :
    (f.responder = .absent ∨ f.responder = .beaten ∨ f.responder = .placed)
      ∨ f.role = .receiver ∧ f.responder = .competing ∧ (f.responseBit = Level.ofBit v
        ∧ (f.withResponseBit (Level.ofBit v)).Yields r b (c + 1)
        ∨ f.responseBit = .recessive ∧ Level.ofBit v = .dominant ∧ r = .competing) := by
  rcases hy with ⟨hr, ha | ha⟩ | ⟨hr, hb | ⟨hrole, hcomp, htake, hlt⟩⟩
  · exact .inl (.inl (hr.trans ha))
  · exact .inl (.inr (.inr (hr.trans ha)))
  · exact .inl (.inr (.inl hb))
  · refine .inr ⟨hrole, hcomp, ?_⟩
    have hown := getElem?_byteBits f.ownByte hc
    have hbit := h.responseBit_eq hc hown
    rcases next_of_lower ((length_byteBits b).trans (length_byteBits f.ownByte).symm)
      (by rwa [natOf_byteBits, natOf_byteBits]) htake hv hown with ⟨he, hnext⟩ | ⟨hv', ho⟩
    · rw [← he] at hbit
      refine .inl ⟨hbit, .inr ⟨hr, .inr ⟨hrole, ?_, hnext, hlt⟩⟩⟩
      exact (if_neg fun hx => hx.2 hbit).trans hcomp
    · exact .inr ⟨by rw [hbit, ho]; rfl, by rw [hv']; rfl, hr⟩

theorem fits (hc : c < 8) {v : Bool} (hv : (byteBits b)[c]? = some v) :
    ¬ (f.responder = .competing ∧ f.responseBit = .dominant ∧ Level.ofBit v = .recessive) := by
  rintro ⟨hcomp, hd, hr⟩
  rcases hy.cases_bit h hc hv with hp | ⟨-, -, ⟨hbit, -⟩ | ⟨-, hdom, -⟩⟩
  · rw [hcomp] at hp
    simp at hp
  · exact nomatch hd.symm.trans (hbit.trans hr)
  · exact nomatch hdom.symm.trans hr

theorem drive (hc : c < 8) {v : Bool} (hv : (byteBits b)[c]? = some v) (h5 : f.run ≠ 5) :
    f.drive = Level.ofBit v ∨ f.drive = .recessive := by
  rcases hy.cases_bit h hc hv with hp | ⟨hrole, hcomp, hbit⟩
  · exact .inr (drive_in_window h.clean.1 (.inr h.place.1) (.inr hp))
  · have hdrive : f.drive = f.responseBit := by
      rw [drive_of_receiver h.clean.1 hrole, answers_at_response hcomp h.place.1, if_neg h5]
    exact hbit.imp (fun hb => hdrive.trans hb.1) fun hb => hdrive.trans hb.1

theorem drive_stuff (h5 : f.run = 5) : f.drive = opposite f.last ∨ f.drive = .recessive := by
  rcases hy with ⟨hr, ha | ha⟩ | ⟨hr, hb | ⟨hrole, hcomp, -⟩⟩
  · exact .inr (drive_in_window h.clean.1 (.inr h.place.1) (.inr (.inl (hr.trans ha))))
  · exact .inr (drive_in_window h.clean.1 (.inr h.place.1) (.inr (.inr (.inr (hr.trans ha)))))
  · exact .inr (drive_in_window h.clean.1 (.inr h.place.1) (.inr (.inr (.inl hb))))
  · exact .inl (by rw [drive_of_receiver h.clean.1 hrole, answers_at_response hcomp h.place.1, if_pos h5])

theorem next (hc : c < 8) {v : Bool} (hv : (byteBits b)[c]? = some v) :
    (f.withResponseBit (Level.ofBit v)).Yields r b (c + 1) := by
  rcases hy.cases_bit h hc hv with hp | ⟨-, hcomp, ⟨-, hnext⟩ | ⟨hbit, hdom, hr⟩⟩
  · have hkeep : (f.withResponseBit (Level.ofBit v)).responder = f.responder :=
      if_neg fun hx => by rw [hx.1] at hp; simp at hp
    rcases hy with ⟨hr, ha⟩ | ⟨hr, hb | ⟨-, hcomp, -⟩⟩
    · exact .inl ⟨hkeep.trans hr, ha⟩
    · exact .inr ⟨hr, .inl (hkeep.trans hb)⟩
    · rw [hcomp] at hp
      simp at hp
  · exact hnext
  · exact .inr ⟨hr, .inl (if_pos ⟨hcomp, by rw [hbit, hdom]; decide⟩)⟩

omit h in
/-- By the end of the byte a responder with a higher one has lost. -/
theorem ended (hc : c = 8) : f.responder = r ∧ (r = .absent ∨ r = .placed) ∨ r = .competing ∧ f.responder = .beaten := by
  refine hy.imp id fun ⟨hr, hx⟩ => ⟨hr, hx.resolve_right fun ⟨_, _, htake, hlt⟩ => ?_⟩
  rw [hc, List.take_of_length_le (Nat.le_of_eq (length_byteBits b)),
    List.take_of_length_le (Nat.le_of_eq (length_byteBits f.ownByte))] at htake
  have := congrArg natOf htake
  rw [natOf_byteBits, natOf_byteBits] at this
  omega

end Frame.Yields

end Sys2Proof.Machine
end

section
/-! SUPPORT. The positions of a response window that two stations share (R15 to R17). -/

namespace Sys2Proof.Machine

theorem lineLevel_comm (a b : Level) : lineLevel a b = lineLevel b a := by
  cases a <;> cases b <;> rfl

/-! ## Two stations in a response byte -/

/-- Two stations that have read `c` bits of response byte `b`, which the second one sends; the position began with
`p₀`. -/
structure Pair.Spelling (p p₀ : Pair) (b : Byte) (c : Nat) : Prop where
  first : p.first.Spelling p₀.first.responses b c
  second : p.second.Spelling p₀.first.responses b c
  run_eq : p.second.run = p.first.run
  last_eq : p.second.last = p.first.last
  speaks : p.second.Speaks b
  yields : p.first.Yields p₀.first.responder b c
  same : p.first.role = p₀.first.role ∧ p.first.ownByte = p₀.first.ownByte
  events : p.firstEvents = p₀.firstEvents ∧ p.secondEvents = p₀.secondEvents

namespace Pair.Spelling
variable {p p₀ : Pair} {b : Byte} {c : Nat} (h : p.Spelling p₀ b c)
include h

theorem clean : p.first.Clean ∧ p.second.Clean := ⟨h.first.clean, h.second.clean⟩

/-- A stuff bit: sent by every station that competes, read by both. -/
theorem stuff (h5 : p.first.run = 5) : p.bit.Spelling p₀ b c ∧ p.bit.first.run = 1 := by
  have h5' : p.second.run = 5 := h.run_eq.trans h5
  have hlevel : lineLevel p.first.drive p.second.drive = opposite p.first.last := by
    rw [lineLevel_comm, h.speaks.drive_stuff h.second h5', h.last_eq]
    exact lineLevel_of_recessive (h.yields.drive_stuff h.first h5)
  have hsecond := h.second.readBit_stuff h5'
  rw [h.last_eq] at hsecond
  rw [pairBit_of_clean (f := p.first.withStuffBit _) (g := p.second.withStuffBit _) hlevel h.clean h.first.clean
    h.second.clean (h.first.readBit_stuff h5) hsecond, List.append_nil, List.append_nil]
  exact ⟨⟨⟨h.first.clean, h.first.place, h.first.part, h.first.listed⟩,
    ⟨h.second.clean, h.second.place, h.second.part, h.second.listed⟩, rfl, rfl, h.speaks, h.yields, h.same, h.events⟩,
    rfl⟩

/-- The stuff bit that may be due is read. -/
theorem ready : ∃ n, (Pair.run n p).Spelling p₀ b c ∧ (Pair.run n p).first.run ≠ 5
    ∧ 4 * n + (Pair.run n p).first.run ≤ p.first.run := by
  by_cases h5 : p.first.run = 5
  · obtain ⟨hstep, hrun⟩ := h.stuff h5
    have hone : (Pair.run 1 p).first.run = 1 := hrun
    exact ⟨1, hstep, by omega, by omega⟩
  · exact ⟨0, h, h5, Nat.le_of_eq (Nat.zero_add _)⟩

theorem level (hc : c < 8) {v : Bool} (hv : (byteBits b)[c]? = some v) (h5 : p.first.run ≠ 5) :
    lineLevel p.first.drive p.second.drive = Level.ofBit v := by
  rw [lineLevel_comm, h.speaks.drive h.second hc hv (by rwa [h.run_eq])]
  exact lineLevel_of_recessive (h.yields.drive h.first hc hv h5)

theorem run_next (read : Level) : (p.second.withResponseBit read).run = (p.first.withResponseBit read).run := by
  simp only [Frame.withResponseBit, h.run_eq, h.last_eq]

/-- A bit of the byte before its last one. -/
theorem early (hb : b.getLsbD 7 = false) (hc : c < 7) (h5 : p.first.run ≠ 5) :
    p.bit.Spelling p₀ b (c + 1) ∧ p.bit.first.run ≤ p.first.run + 1 := by
  have hc8 : c < 8 := by omega
  have hv := getElem?_byteBits b hc8
  rw [pairBit_of_clean (h.level hc8 hv h5) h.clean (h.first.next hv).clean (h.second.next hv).clean
    (h.first.readBit_early hv h5 (h.yields.fits h.first hc8 hv) hc hb)
    (h.second.readBit_early hv (by rwa [h.run_eq]) (h.speaks.fits h.second hc8 hv) hc hb), List.append_nil,
    List.append_nil]
  exact ⟨⟨h.first.next hv, h.second.next hv, h.run_next _, rfl, h.speaks.next h.second hc8 hv,
    h.yields.next h.first hc8 hv, h.same, h.events⟩, counted_run_le _ _⟩

/-- The first seven bits of the byte. -/
theorem run_early (hb : b.getLsbD 7 = false) {j : Nat} (hj : c + j ≤ 7) : ∃ n, (Pair.run n p).Spelling p₀ b (c + j)
    ∧ 4 * n + (Pair.run n p).first.run ≤ 5 * j + p.first.run := by
  induction j with
  | zero => exact ⟨0, h, Nat.le_refl _⟩
  | succ j ih =>
    obtain ⟨n, hn, hnrun⟩ := ih (by omega)
    obtain ⟨m, hm, h5, hmrun⟩ := hn.ready
    obtain ⟨hstep, hrun⟩ := hm.early hb (by omega) h5
    refine ⟨n + m + 1, ?_, ?_⟩
    · rw [run_succ, run_add]
      exact hstep
    · rw [run_succ, run_add]
      omega

end Pair.Spelling

/-! ## The end of a position -/

/-- Two stations before the start bit of a position, the bytes of the earlier ones in their lists. -/
structure Pair.AtStart (p : Pair) (done : List Byte) : Prop where
  clean : p.first.Clean ∧ p.second.Clean
  place : p.first.elem = .start ∧ p.second.elem = .start
  listed : p.first.responses = done ∧ p.second.responses = done
  run_eq : p.second.run = p.first.run
  last_eq : p.first.run ≠ 0 → p.second.last = p.first.last
  unstuffed : p.first.run ≠ 5

/-- Two stations after a position that began with `p₀`, and in which the second one has been placed with byte `b`. -/
structure Pair.Placed (p p₀ : Pair) (b : Byte) : Prop where
  start : p.AtStart (p₀.first.responses ++ [b])
  first : p.first.responder = p₀.first.responder ∧ p.first.role = p₀.first.role ∧ p.first.ownByte = p₀.first.ownByte
  second : p.second.responder = .placed ∧ p.second.role = .receiver
  events : p.firstEvents = p₀.firstEvents ∧ p.secondEvents = p₀.secondEvents ++ [.placed]

theorem readBit_startStuff {f : Frame} (h5 : f.run = 5) (he : f.elem = .start) :
    f.readBit (opposite f.last) = (f.withStuffBit (opposite f.last)).positionOver := by
  rw [readBit_of_stuff h5 (opposite_ne _), stuffed_at_start he]

/-- Two stations that have read a stuff bit at that level. -/
def Pair.withStuff (p : Pair) (read : Level) : Pair :=
  { p with first := p.first.withStuffBit read, second := p.second.withStuffBit read }

/-- A frame with a position over that byte `b` has filled, the station's part now `r`. -/
def Frame.filled (f : Frame) (b : Byte) (r : Responder) : Frame := { f.listed b .start with responder := r }

/-- By the end of its byte a responder of part `r` has given way. -/
def Frame.Yielded (f : Frame) (r : Responder) : Prop :=
  f.responder = r ∧ (r = .absent ∨ r = .placed) ∨ r = .competing ∧ f.responder = .beaten

namespace Frame.Yielded
variable {f : Frame} {r : Responder} (h : f.Yielded r)
include h

theorem passive : f.responder = .absent ∨ f.responder = .beaten ∨ f.responder = .placed := by
  rcases h with ⟨hr, ha | ha⟩ | ⟨-, hb⟩
  · exact .inl (hr.trans ha)
  · exact .inr (.inr (hr.trans ha))
  · exact .inr (.inl hb)

theorem listed (b : Byte) (e : Elem) : (f.listed b e).responder = f.responder := by
  refine if_neg fun hc => ?_
  have hp := h.passive
  rw [hc] at hp
  simp at hp

theorem positionOver : f.positionOver = ({ f with responder := r }, []) := by
  rcases h with ⟨hr, ha⟩ | ⟨hr, hb⟩
  · rw [positionOver_of_idle (by rwa [hr]), ← hr]
  · rw [positionOver_of_beaten hb, hr]

/-- It takes up its part again when the position is over (R16). -/
theorem positionOver_listed (b : Byte) : (f.listed b .start).positionOver = (f.filled b r, []) := by
  have hl : (f.listed b .start).Yielded r := by
    unfold Frame.Yielded
    rw [h.listed]
    exact h
  rw [hl.positionOver]
  rfl

end Frame.Yielded

theorem positionOver_listed_of_competing {f : Frame} (h : f.responder = .competing) (b : Byte) :
    (f.listed b .start).positionOver = (f.filled b .placed, [.placed]) :=
  positionOver_of_sent (if_pos h)

namespace Pair.Spelling
variable {p p₀ : Pair} {b : Byte}

theorem withStuff {c : Nat} (h : p.Spelling p₀ b c) (read : Level) : (p.withStuff read).Spelling p₀ b c :=
  ⟨⟨h.first.clean, h.first.place, h.first.part, h.first.listed⟩,
    ⟨h.second.clean, h.second.place, h.second.part, h.second.listed⟩, rfl, rfl, h.speaks, h.yields, h.same, h.events⟩

/-- Two stations that have read the last bit of byte `b`. -/
def next (p : Pair) (read : Level) : Pair :=
  { p with first := p.first.withResponseBit read, second := p.second.withResponseBit read }

theorem whole (h : p.Spelling p₀ b 7) {v : Bool} (hv : (byteBits b)[7]? = some v) :
    (next p (Level.ofBit v)).Spelling p₀ b 8 :=
  ⟨h.first.next hv, h.second.next hv, h.run_next _, rfl, h.speaks.next h.second (by decide) hv,
    h.yields.next h.first (by decide) hv, h.same, h.events⟩

/-- Two stations with their position over. -/
def filled (p p₀ : Pair) (b : Byte) : Pair :=
  { first := p.first.filled b p₀.first.responder, second := p.second.filled b .placed
    firstEvents := p.firstEvents, secondEvents := p.secondEvents ++ [.placed] }

section
variable (h : p.Spelling p₀ b 8)
include h

theorem yielded : p.first.Yielded p₀.first.responder := h.yields.ended rfl

theorem placed (h5 : p.first.run ≠ 5) : (filled p p₀ b).Placed p₀ b where
  start := ⟨h.clean, ⟨rfl, rfl⟩, ⟨congrArg (· ++ [b]) h.first.listed, congrArg (· ++ [b]) h.second.listed⟩, h.run_eq,
    fun _ => h.last_eq, h5⟩
  first := ⟨rfl, h.same⟩
  second := ⟨rfl, h.speaks.1⟩
  events := ⟨h.events.1, congrArg (· ++ [LineEvent.placed]) h.events.2⟩

/-- Two stations before the stuff bit that follows the byte. -/
def listed (p : Pair) (b : Byte) : Pair :=
  { p with first := p.first.listed b .start, second := p.second.listed b .start }

/-- The stuff bit that follows the byte, sent by the station that has sent the byte. -/
theorem bit_listed (h5 : p.first.run = 5) : (listed p b).bit
    = filled (p.withStuff (opposite p.first.last)) p₀ b := by
  have hstuffed := h.withStuff (opposite p.first.last)
  have hdrive : (p.second.listed b .start).drive = opposite p.first.last := by
    have hsent : (p.second.listed b .start).responder = .sent := if_pos h.speaks.2.1
    rw [drive_of_receiver (f := p.second.listed b .start) h.second.clean.1 h.speaks.1, answers_of_sent hsent,
      ← h.last_eq]
    rfl
  have hpassive : (p.first.listed b .start).drive = .recessive :=
    drive_in_window h.first.clean.1 (.inl rfl) (.inr (by rw [h.yielded.listed]; exact h.yielded.passive))
  have hsecond : (p.second.listed b .start).readBit (opposite p.first.last)
      = ((p.second.withStuffBit (opposite p.first.last)).filled b .placed, [.placed]) := by
    rw [← h.last_eq]
    rw [← h.run_eq] at h5
    exact (readBit_startStuff (f := p.second.listed b .start) h5 rfl).trans
      (positionOver_listed_of_competing (f := p.second.withStuffBit (opposite p.second.last)) h.speaks.2.1 b)
  have hfirst : (p.first.listed b .start).readBit (opposite p.first.last)
      = ((p.first.withStuffBit (opposite p.first.last)).filled b p₀.first.responder, []) :=
    (readBit_startStuff (f := p.first.listed b .start) h5 rfl).trans (hstuffed.yielded.positionOver_listed b)
  have hlevel : lineLevel (p.first.listed b .start).drive (p.second.listed b .start).drive = opposite p.first.last := by
    rw [hdrive, hpassive, lineLevel_comm, lineLevel_of_recessive (.inr rfl)]
  rw [pairBit_of_clean (p := listed p b) (f := (p.first.withStuffBit _).filled b _)
    (g := (p.second.withStuffBit _).filled b _) hlevel h.clean hstuffed.first.clean hstuffed.second.clean hfirst hsecond]
  simp only [filled, listed, Pair.withStuff, List.append_nil]

/-- The last bit of the byte, which leaves `p`, and the stuff bit that may follow it. -/
theorem ends (hb : b.extractLsb' 0 6 ≠ 0) (hn : p₀.first.responses.length ≠ 14) {q : Pair} {read : Level}
    (hq : q.first.Clean ∧ q.second.Clean) (hlevel : lineLevel q.first.drive q.second.drive = read)
    (hfirst : q.first.readBit read = p.first.byteRead b) (hsecond : q.second.readBit read = p.second.byteRead b)
    (hev : q.firstEvents = p.firstEvents ∧ q.secondEvents = p.secondEvents) : ∃ n, (Pair.run (n + 1) q).Placed p₀ b
    ∧ 4 * n + (Pair.run (n + 1) q).first.run ≤ p.first.run := by
  have hn₁ : p.first.responses.length ≠ 14 := by rwa [h.first.listed]
  have hn₂ : p.second.responses.length ≠ 14 := by rwa [h.second.listed]
  by_cases h5 : p.first.run = 5
  · have h5' : p.second.run = 5 := h.run_eq.trans h5
    rw [byteRead_of_stuff hb h5, if_neg hn₁] at hfirst
    rw [byteRead_of_stuff hb h5', if_neg hn₂] at hsecond
    have hbit : q.bit = listed p b := by
      rw [pairBit_of_clean (f := p.first.listed b .start) (g := p.second.listed b .start) hlevel hq h.first.clean
        h.second.clean hfirst hsecond, List.append_nil, List.append_nil, hev.1, hev.2]
      rfl
    have hrun : Pair.run (1 + 1) q = filled (p.withStuff (opposite p.first.last)) p₀ b := by
      rw [Pair.run, hbit]
      exact h.bit_listed h5
    refine ⟨1, ?_, ?_⟩
    · rw [hrun]
      exact (h.withStuff _).placed (by decide : (1 : Nat) ≠ 5)
    · rw [hrun, h5]
      exact Nat.le_refl _
  · have h5' : p.second.run ≠ 5 := by rwa [h.run_eq]
    rw [byteRead_of_more hb h5 hn₁, h.yielded.positionOver_listed] at hfirst
    rw [byteRead_of_more hb h5' hn₂, positionOver_listed_of_competing h.speaks.2.1] at hsecond
    have hbit : q.bit = filled p p₀ b := by
      rw [pairBit_of_clean (f := p.first.filled b _) (g := p.second.filled b _) hlevel hq h.first.clean
        h.second.clean hfirst hsecond, List.append_nil, hev.1, hev.2]
      rfl
    refine ⟨0, ?_, ?_⟩
    · rw [Pair.run, Pair.run, hbit]
      exact h.placed h5
    · rw [Pair.run, Pair.run, hbit]
      exact Nat.le_of_eq (Nat.zero_add _)

end

/-- From the last bit of the byte to the end of its position. -/
theorem last (h : p.Spelling p₀ b 7) (hb : b.extractLsb' 0 6 ≠ 0) (hn : p₀.first.responses.length ≠ 14)
    (h5 : p.first.run ≠ 5) : ∃ n, (Pair.run n p).Placed p₀ b
    ∧ 4 * n + (Pair.run n p).first.run ≤ 5 + p.first.run := by
  have hv := getElem?_byteBits b (c := 7) (by decide)
  obtain ⟨n, hplaced, hrun⟩ := (h.whole hv).ends hb hn h.clean (h.level (by decide) hv h5)
    (h.first.readBit_last hv h5 (h.yields.fits h.first (by decide) hv) rfl)
    (h.second.readBit_last hv (by rwa [h.run_eq]) (h.speaks.fits h.second (by decide) hv) rfl) ⟨rfl, rfl⟩
  have hcounted : (next p (Level.ofBit (b.getLsbD (7 - 7)))).first.run ≤ p.first.run + 1 := counted_run_le _ _
  exact ⟨n + 1, hplaced, by omega⟩

end Pair.Spelling

/-! ## A position from its start bit to its end -/

/-- A frame with the start bit of a position read. -/
def Frame.opened (f : Frame) : Frame := { f.counted .dominant with elem := .response, count := 0, partialByte := [] }

theorem lineLevel_of_dominant (a : Level) : lineLevel a .dominant = .dominant := by cases a <;> rfl

/-- Two stations with the start bit of a position read. -/
def Pair.opened (p : Pair) : Pair := { p with first := p.first.opened, second := p.second.opened }

namespace Pair.AtStart
variable {p : Pair} {done : List Byte} (h : p.AtStart done)
include h

theorem run_opened : p.second.opened.run = p.first.opened.run := by
  by_cases h0 : p.first.run = 0
  · simp only [Frame.opened, Frame.counted, h.run_eq, h0]
    rfl
  · simp only [Frame.opened, Frame.counted, h.run_eq, h.last_eq h0]

variable {b : Byte} (hs : p.second.Speaks b)
include hs

theorem bit_opened : p.bit = p.opened := by
  have hlevel : lineLevel p.first.drive p.second.drive = .dominant := by
    rw [drive_of_receiver h.clean.2.1 hs.1, answers_at_start hs.2.1 h.place.2, lineLevel_of_dominant]
  have h5 : p.second.run ≠ 5 := by
    rw [h.run_eq]
    exact h.unstuffed
  rw [pairBit_of_clean (f := p.first.opened) (g := p.second.opened) hlevel h.clean h.clean.1 h.clean.2
    (readBit_at_start_dominant h.unstuffed h.place.1) (readBit_at_start_dominant h5 h.place.2), List.append_nil,
    List.append_nil]
  rfl

theorem spelling (hy : p.first.Yields p.first.responder b 0) : p.opened.Spelling p b 0 where
  first := ⟨h.clean.1, ⟨rfl, rfl⟩, rfl, rfl⟩
  second := ⟨h.clean.2, ⟨rfl, rfl⟩, rfl, h.listed.2.trans h.listed.1.symm⟩
  run_eq := h.run_opened
  last_eq := rfl
  speaks := hs
  yields := hy
  same := ⟨rfl, rfl⟩
  events := ⟨rfl, rfl⟩

/-- A position of the window: the start bit, the byte that the second station sends and the stuff bits among them. -/
theorem position (hb : b.getLsbD 7 = false ∧ b.extractLsb' 0 6 ≠ 0) (hn : p.first.responses.length ≠ 14)
    (hy : p.first.Yields p.first.responder b 0) : ∃ n, (Pair.run n p).Placed p b
    ∧ 4 * n + (Pair.run n p).first.run ≤ 45 + p.first.run := by
  have hopened : p.opened.first.run ≤ p.first.run + 1 := counted_run_le _ _
  obtain ⟨j, hj, hjrun⟩ := (h.spelling hs hy).run_early hb.1 (j := 7) (by decide)
  obtain ⟨m, hm, h5, hmrun⟩ := hj.ready
  obtain ⟨k, hk, hkrun⟩ := hm.last hb.2 hn h5
  have hrun : Pair.run (j + m + k + 1) p = Pair.run k (Pair.run m (Pair.run j p.opened)) := by
    rw [Pair.run, h.bit_opened hs, run_add, run_add]
  exact ⟨j + m + k + 1, by rwa [hrun], by rw [hrun]; omega⟩

end Pair.AtStart

end Sys2Proof.Machine
end

section
/-! SUPPORT. The window of two stations from its first position to the end of the frame (R12, R15 to R17). -/

namespace Sys2Proof.Machine

/-! ## The two stations in the other order -/

/-- The two stations, each in the other's place. -/
def Pair.swap (p : Pair) : Pair :=
  { first := p.second, second := p.first, firstEvents := p.secondEvents, secondEvents := p.firstEvents }

theorem bit_swap (p : Pair) : p.swap.bit = p.bit.swap := by
  simp only [Pair.bit, Pair.swap, lineLevel_comm p.second.drive]

theorem run_swap (n : Nat) (p : Pair) : Pair.run n p.swap = (Pair.run n p).swap := by
  induction n generalizing p with
  | zero => rfl
  | succ n ih => rw [Pair.run, bit_swap, ih]; rfl

/-! ## The position that no responder opens -/

/-- A frame whose window has ended with a recessive start bit, the first bit of the EOF. -/
def Frame.closed (f : Frame) : Frame := { f with elem := .eof, count := 1, run := 0 }

namespace Pair.AtStart
variable {p : Pair} {done : List Byte} (h : p.AtStart done)
include h

theorem swap : p.swap.AtStart done where
  clean := h.clean.symm
  place := h.place.symm
  listed := h.listed.symm
  run_eq := h.run_eq.symm
  last_eq := fun h0 => (h.last_eq fun hx => h0 (h.run_eq.trans hx)).symm
  unstuffed := fun hx => h.unstuffed (h.run_eq.symm.trans hx)

variable (hr : p.first.Resting ∧ p.second.Resting)
  (hc : p.first.responder ≠ .competing ∧ p.second.responder ≠ .competing)
include hr hc

theorem bit_closed : p.bit = { p with first := p.first.closed, second := p.second.closed } := by
  have h5 : p.second.run ≠ 5 := h.swap.unstuffed
  have hlevel : lineLevel p.first.drive p.second.drive = .recessive := by
    rw [drive_of_resting h.clean.1.1 h.unstuffed (.inr (.inl h.place.1)) hr.1,
      drive_of_resting h.clean.2.1 h5 (.inr (.inl h.place.2)) hr.2]
    rfl
  rw [pairBit_of_clean (f := p.first.closed) (g := p.second.closed) hlevel h.clean h.clean.1 h.clean.2
    ((readBit_at_start_recessive h.unstuffed h.place.1).trans (if_neg hc.1))
    ((readBit_at_start_recessive h5 h.place.2).trans (if_neg hc.2)), List.append_nil, List.append_nil]

/-- From the last position of the window to the end of the frame. -/
theorem finish : (Pair.run 8 p).firstEvents = p.firstEvents ++ [p.first.endEvent]
    ∧ (Pair.run 8 p).secondEvents = p.secondEvents ++ [p.second.endEvent]
    ∧ (Pair.run 8 p).first.responses = done ∧ (Pair.run 8 p).second.responses = done := by
  have hfirst : p.first.closed.Ends 1 := ⟨h.clean.1, ⟨rfl, rfl⟩, (by decide : (0 : Nat) ≠ 5), hr.1⟩
  have hsecond : p.second.closed.Ends 1 := ⟨h.clean.2, ⟨rfl, rfl⟩, (by decide : (0 : Nat) ≠ 5), hr.2⟩
  have hrun : Pair.run 8 p = Pair.run (6 + 1) p.bit := rfl
  rw [hrun, h.bit_closed hr hc,
    run_ends (p := { p with first := p.first.closed, second := p.second.closed }) rfl hfirst hsecond]
  exact ⟨rfl, rfl, h.listed⟩

omit hr hc in
/-- A window with one more response to come, from a station that has not been placed, to the end of the frame. -/
theorem last_response {b : Byte} (hs : p.second.Speaks b) (hb : b.getLsbD 7 = false ∧ b.extractLsb' 0 6 ≠ 0)
    (hn : done.length ≠ 14) (ha : p.first.responder = .absent ∨ p.first.responder = .placed) : ∃ n,
    4 * n ≤ 77 + p.first.run ∧ (Pair.run n p).firstEvents = p.firstEvents ++ [p.first.endEvent]
      ∧ (Pair.run n p).secondEvents = p.secondEvents ++ [.placed, .frameEnd]
      ∧ (Pair.run n p).first.responses = done ++ [b] ∧ (Pair.run n p).second.responses = done ++ [b] := by
  obtain ⟨n, hplaced, hnrun⟩ := h.position hs hb (by rwa [h.listed.1]) (.inl ⟨rfl, ha⟩)
  obtain ⟨hstart, ⟨hresp, hrole, -⟩, ⟨hresp', hrole'⟩, hev, hev'⟩ := hplaced
  have hrest : (Pair.run n p).first.Resting := by
    rw [← hresp] at ha
    exact .inr (ha.imp_right .inr)
  have hquiet : (Pair.run n p).first.responder ≠ .competing := by
    rw [hresp]
    rcases ha with ha | ha
    all_goals
      rw [ha]
      decide
  have hend : (Pair.run n p).first.endEvent = p.first.endEvent := by rw [Frame.endEvent, hrole, Frame.endEvent]
  obtain ⟨hfirst, hsecond, hlists⟩ := hstart.finish ⟨hrest, .inr (.inr (.inr hresp'))⟩
    ⟨hquiet, by rw [hresp']; decide⟩
  rw [hev, hend] at hfirst
  rw [hev', endEvent_of_receiver hrole', List.append_assoc] at hsecond
  rw [h.listed.1] at hlists
  refine ⟨n + 8, by omega, ?_⟩
  rw [run_add]
  exact ⟨hfirst, hsecond, hlists⟩

end Pair.AtStart

/-! ## The window -/

theorem Frame.AtWindow.atStart {f g : Frame} (hf : f.AtWindow) (hg : g.AtWindow) :
    Pair.AtStart { first := f, second := g, firstEvents := [], secondEvents := [] } [] := by
  obtain ⟨hclean, he, -, hrun, hlist⟩ := hf
  obtain ⟨hclean', he', -, hrun', hlist'⟩ := hg
  exact ⟨⟨hclean, hclean'⟩, ⟨he, he'⟩, ⟨hlist, hlist'⟩, hrun'.trans hrun.symm, fun h => absurd hrun h,
    fun h => nomatch hrun.symm.trans h⟩

/-- A caller and its one responder. -/
theorem run_one_responder {f g : Frame} (hf : f.AtWindow) (hg : g.AtWindow) (hs : g.Speaks g.ownByte)
    (hb : g.LegalByte) (hr : f.role = .transmitter) (ha : f.responder = .absent) : ∃ n, n ≤ 40 ∧
      let p := Pair.run n { first := f, second := g, firstEvents := [], secondEvents := [] }
      p.firstEvents = [.attemptSettled .ok] ∧ p.secondEvents = [.placed, .frameEnd]
      ∧ p.first.responses = [g.ownByte] ∧ p.second.responses = [g.ownByte] := by
  have hzero : f.run = 0 := hf.first_position.2.2.1
  obtain ⟨n, hn, hfirst, hrest⟩ := (hf.atStart hg).last_response hs hb (by decide) (.inl ha)
  rw [endEvent_of_transmitter hr] at hfirst
  dsimp only at hn
  exact ⟨n, by omega, hfirst, hrest⟩

/-- Two responders: the one with the lower byte is placed first. -/
theorem run_two_responders {f g : Frame} (hf : f.AtWindow) (hg : g.AtWindow) (hs : f.Speaks f.ownByte)
    (hs' : g.Speaks g.ownByte) (hb : f.LegalByte) (hb' : g.LegalByte) (hlt : f.ownByte.toNat < g.ownByte.toNat) :
    ∃ n, n ≤ 40 ∧
      let p := Pair.run n { first := f, second := g, firstEvents := [], secondEvents := [] }
      p.firstEvents = [.placed, .frameEnd] ∧ p.secondEvents = [.placed, .frameEnd]
      ∧ p.first.responses = [f.ownByte, g.ownByte] ∧ p.second.responses = [f.ownByte, g.ownByte] := by
  have hstart := hg.atStart hf
  have hnone : g.responses = [] := hstart.listed.1
  have hzero : g.run = 0 := hg.first_position.2.2.1
  obtain ⟨hrole, hcomp, -⟩ := hs'
  obtain ⟨n, ⟨hstart', ⟨hresp, hsame, hown⟩, ⟨hplaced, hrole'⟩, hev, hev'⟩, hn⟩ :=
    hstart.position hs hb (by rw [hnone]; decide) (.inr ⟨hcomp, .inr ⟨hrole, hcomp, rfl, hlt⟩⟩)
  have hrun (m : Nat) : Pair.run (n + m) { first := f, second := g, firstEvents := [], secondEvents := [] }
      = Pair.run m (Pair.run n { first := g, second := f, firstEvents := [], secondEvents := [] }).swap := by
    rw [run_add, ← run_swap]
    rfl
  generalize Pair.run n { first := g, second := f, firstEvents := [], secondEvents := [] } = q at *
  have hspeaks : q.swap.second.Speaks g.ownByte := ⟨hsame.trans hrole, hresp.trans hcomp, hown⟩
  obtain ⟨m, hm, hfirst, hsecond, hlists⟩ := hstart'.swap.last_response hspeaks hb'
    (by rw [hnone]; exact (by decide : 1 ≠ 14)) (.inr hplaced)
  have hfirst' : q.swap.firstEvents ++ [q.swap.first.endEvent] = [.placed, .frameEnd] := by
    rw [endEvent_of_receiver (f := q.swap.first) hrole']
    exact congrArg (· ++ [LineEvent.frameEnd]) hev'
  have hsecond' : q.swap.secondEvents ++ [.placed, .frameEnd] = [.placed, .frameEnd] :=
    congrArg (· ++ [LineEvent.placed, .frameEnd]) hev
  have hruns : q.swap.first.run = q.first.run := hstart'.run_eq
  dsimp only at hn
  refine ⟨n + m, by omega, ?_⟩
  rw [hrun]
  rw [hnone] at hlists
  exact ⟨hfirst.trans hfirst', hsecond.trans hsecond', hlists⟩

/-- Settles O50: of the competing responders the lowest byte fills the position, those above it give way and compete
again in the next one, and a start bit that nobody drives ends the window. -/
theorem responsesArePlacedInAscendingOrder : Obligations.ResponsesArePlacedInAscendingOrder := by
  intro f g hf hg hrole hcomp hb
  have hs : g.Speaks g.ownByte := ⟨hrole, hcomp, rfl⟩
  exact ⟨fun hr hc hb' hlt => run_two_responders hf hg ⟨hr, hc, rfl⟩ hs hb' hb hlt,
    fun hr ha => run_one_responder hf hg hs hb hr ha⟩

end Sys2Proof.Machine
end
